-- ==== Sys2Proof/Word.lean ====
section
/-! DEFINITION. The two data widths of the MC68HC11A8: the byte, which is the addressable unit, and the 16-bit word
(00_scope.md R6). Arithmetic on both wraps, as 42_arithmetic.md R250(b) and 20_memory.md R76 say. -/

namespace Sys2Proof

/-- The addressable unit (20_memory.md R70). -/
abbrev Byte := BitVec 8

/-- A 16-bit register, operand or address (00_scope.md R6). -/
abbrev Word := BitVec 16

end Sys2Proof
end

