-- ==== Sys2Proof/Machine/Bits.lean ====
section
/-! DEFINITION. The helpers that take bytes and words apart and widen them (00_scope.md R7, 20_memory.md R72). -/

namespace Sys2Proof.Machine

/-- `v[15:8]`, the byte at the lower address (20_memory.md R72). -/
def hiByte (v : Word) : Byte := BitVec.ofNat 8 (v.toNat / 256)

/-- `v[7:0]`, the byte at the higher address. -/
def loByte (v : Word) : Byte := BitVec.ofNat 8 v.toNat

/-- `h:l = h * 256 + l`, the word whose high byte is `h` (00_scope.md R7, 30_encoding.md R105). -/
def joinBytes (h l : Byte) : Word := BitVec.ofNat 16 (h.toNat * 256 + l.toNat)

/-- `zext_16(v)` (00_scope.md R7): the source's "00:B". -/
def zext (v : Byte) : Word := v.setWidth 16

/-- `sext_16(v)` (00_scope.md R7): `sx(rr)` of 30_encoding.md R110. -/
def sext (v : Byte) : Word := v.signExtend 16

/-- A flag as the byte 0 or 1, for the additions that take the carry in. -/
def bitByte (c : Bool) : Byte := bif c then 1 else 0

end Sys2Proof.Machine
end

