-- ==== Sys2Proof/Syntax.lean ====
section
/-! DEFINITION. The instructions of Table 10-1: one constructor for each of its 145 mnemonics. The addressing mode of a
form with an operand is the constructor of its operand argument, so each of the 316 rows of the table is one shape of one
constructor (00_scope.md R1, R11; 30_encoding.md R101, R104 to R112). The six second names of 30_encoding.md R122 have
constructors of their own. -/

namespace Sys2Proof

/-- A memory operand as the instruction carries it (30_encoding.md R106 to R109). -/
inductive Addr
  /-- DIR: the direct address byte dd. -/
  | dir (dd : Byte)
  /-- EXT: the extended address hh:ll. -/
  | ext (hhll : Word)
  /-- IND,X: the unsigned offset ff added to IX. -/
  | indX (ff : Byte)
  /-- IND,Y: the unsigned offset ff added to IY. -/
  | indY (ff : Byte)
deriving DecidableEq, Repr

/-- An 8-bit source operand (30_encoding.md R104, R126). -/
inductive Src8
  /-- IMM: the byte ii. -/
  | imm (ii : Byte)
  | mem (m : Addr)
deriving DecidableEq, Repr

/-- A 16-bit source operand (30_encoding.md R105, R126). -/
inductive Src16
  /-- IMM: the word jj:kk. -/
  | imm (jjkk : Word)
  | mem (m : Addr)
deriving DecidableEq, Repr

/-- The instructions of Table 10-1, in the order of the rules that give their meanings. -/
inductive Instr
  -- 40_load_store_transfer.md
  /-- LDAA (R201). -/
  | ldaa (src : Src8)
  /-- LDAB (R202). -/
  | ldab (src : Src8)
  /-- LDD (R203). -/
  | ldd (src : Src16)
  /-- LDS (R204). -/
  | lds (src : Src16)
  /-- LDX (R205). -/
  | ldx (src : Src16)
  /-- LDY (R206). -/
  | ldy (src : Src16)
  /-- STAA (R207). -/
  | staa (m : Addr)
  /-- STAB (R208). -/
  | stab (m : Addr)
  /-- STD (R209). -/
  | std (m : Addr)
  /-- STS (R210). -/
  | sts (m : Addr)
  /-- STX (R211). -/
  | stx (m : Addr)
  /-- STY (R212). -/
  | sty (m : Addr)
  /-- TAB (R213). -/
  | tab
  /-- TBA (R214). -/
  | tba
  /-- TSX (R215). -/
  | tsx
  /-- TSY (R216). -/
  | tsy
  /-- TXS (R217). -/
  | txs
  /-- TYS (R218). -/
  | tys
  /-- XGDX (R219). -/
  | xgdx
  /-- XGDY (R220). -/
  | xgdy
  /-- CLR (R221). -/
  | clr (m : Addr)
  /-- CLRA (R222). -/
  | clra
  /-- CLRB (R223). -/
  | clrb
  -- 41_stack.md
  /-- PSHA (R231). -/
  | psha
  /-- PSHB (R232). -/
  | pshb
  /-- PSHX (R233). -/
  | pshx
  /-- PSHY (R234). -/
  | pshy
  /-- PULA (R235). -/
  | pula
  /-- PULB (R236). -/
  | pulb
  /-- PULX (R237). -/
  | pulx
  /-- PULY (R238). -/
  | puly
  /-- DES (R239). -/
  | des
  /-- INS (R240). -/
  | ins
  -- 42_arithmetic.md
  /-- ABA (R251). -/
  | aba
  /-- ABX (R252). -/
  | abx
  /-- ABY (R253). -/
  | aby
  /-- ADCA (R254). -/
  | adca (src : Src8)
  /-- ADCB (R255). -/
  | adcb (src : Src8)
  /-- ADDA (R256). -/
  | adda (src : Src8)
  /-- ADDB (R257). -/
  | addb (src : Src8)
  /-- ADDD (R258). -/
  | addd (src : Src16)
  /-- SBA (R259). -/
  | sba
  /-- SBCA (R260). -/
  | sbca (src : Src8)
  /-- SBCB (R261). -/
  | sbcb (src : Src8)
  /-- SUBA (R262). -/
  | suba (src : Src8)
  /-- SUBB (R263). -/
  | subb (src : Src8)
  /-- SUBD (R264). -/
  | subd (src : Src16)
  /-- CBA (R265). -/
  | cba
  /-- CMPA (R266). -/
  | cmpa (src : Src8)
  /-- CMPB (R267). -/
  | cmpb (src : Src8)
  /-- CPD (R268). -/
  | cpd (src : Src16)
  /-- CPX (R269). -/
  | cpx (src : Src16)
  /-- CPY (R270). -/
  | cpy (src : Src16)
  /-- NEG (R271). -/
  | neg (m : Addr)
  /-- NEGA (R272). -/
  | nega
  /-- NEGB (R273). -/
  | negb
  /-- INC (R274). -/
  | inc (m : Addr)
  /-- INCA (R275). -/
  | inca
  /-- INCB (R276). -/
  | incb
  /-- DEC (R277). -/
  | dec (m : Addr)
  /-- DECA (R278). -/
  | deca
  /-- DECB (R279). -/
  | decb
  /-- INX (R280). -/
  | inx
  /-- INY (R281). -/
  | iny
  /-- DEX (R282). -/
  | dex
  /-- DEY (R283). -/
  | dey
  /-- TST (R284). -/
  | tst (m : Addr)
  /-- TSTA (R285). -/
  | tsta
  /-- TSTB (R286). -/
  | tstb
  /-- DAA (R287). -/
  | daa
  -- 43_multiply_divide.md
  /-- MUL (R301). -/
  | mul
  /-- IDIV (R302). -/
  | idiv
  /-- FDIV (R303). -/
  | fdiv
  -- 44_logic_bits.md
  /-- ANDA (R311). -/
  | anda (src : Src8)
  /-- ANDB (R312). -/
  | andb (src : Src8)
  /-- BITA (R313). -/
  | bita (src : Src8)
  /-- BITB (R314). -/
  | bitb (src : Src8)
  /-- EORA (R315). -/
  | eora (src : Src8)
  /-- EORB (R316). -/
  | eorb (src : Src8)
  /-- ORAA (R317). -/
  | oraa (src : Src8)
  /-- ORAB (R318). -/
  | orab (src : Src8)
  /-- COM (R319). -/
  | com (m : Addr)
  /-- COMA (R320). -/
  | coma
  /-- COMB (R321). -/
  | comb
  /-- BCLR (R322). -/
  | bclr (m : Addr) (mm : Byte)
  /-- BSET (R323). -/
  | bset (m : Addr) (mm : Byte)
  -- 45_shift_rotate.md
  /-- ASL (R331). -/
  | asl (m : Addr)
  /-- ASLA (R332). -/
  | asla
  /-- ASLB (R333). -/
  | aslb
  /-- ASLD (R334). -/
  | asld
  /-- ASR (R335). -/
  | asr (m : Addr)
  /-- ASRA (R336). -/
  | asra
  /-- ASRB (R337). -/
  | asrb
  /-- LSL, a second name of ASL (R338). -/
  | lsl (m : Addr)
  /-- LSLA, a second name of ASLA (R339). -/
  | lsla
  /-- LSLB, a second name of ASLB (R340). -/
  | lslb
  /-- LSLD, a second name of ASLD (R341). -/
  | lsld
  /-- LSR (R342). -/
  | lsr (m : Addr)
  /-- LSRA (R343). -/
  | lsra
  /-- LSRB (R344). -/
  | lsrb
  /-- LSRD (R345). -/
  | lsrd
  /-- ROL (R346). -/
  | rol (m : Addr)
  /-- ROLA (R347). -/
  | rola
  /-- ROLB (R348). -/
  | rolb
  /-- ROR (R349). -/
  | ror (m : Addr)
  /-- RORA (R350). -/
  | rora
  /-- RORB (R351). -/
  | rorb
  -- 46_branch.md
  /-- BCC (R361). -/
  | bcc (rr : Byte)
  /-- BCS (R362). -/
  | bcs (rr : Byte)
  /-- BEQ (R363). -/
  | beq (rr : Byte)
  /-- BGE (R364). -/
  | bge (rr : Byte)
  /-- BGT (R365). -/
  | bgt (rr : Byte)
  /-- BHI (R366). -/
  | bhi (rr : Byte)
  /-- BHS, a second name of BCC (R367). -/
  | bhs (rr : Byte)
  /-- BLE (R368). -/
  | ble (rr : Byte)
  /-- BLO, a second name of BCS (R369). -/
  | blo (rr : Byte)
  /-- BLS (R370). -/
  | bls (rr : Byte)
  /-- BLT (R371). -/
  | blt (rr : Byte)
  /-- BMI (R372). -/
  | bmi (rr : Byte)
  /-- BNE (R373). -/
  | bne (rr : Byte)
  /-- BPL (R374). -/
  | bpl (rr : Byte)
  /-- BRA (R375). -/
  | bra (rr : Byte)
  /-- BRN (R376). -/
  | brn (rr : Byte)
  /-- BVC (R377). -/
  | bvc (rr : Byte)
  /-- BVS (R378). -/
  | bvs (rr : Byte)
  /-- BRCLR (R379). -/
  | brclr (m : Addr) (mm : Byte) (rr : Byte)
  /-- BRSET (R380). -/
  | brset (m : Addr) (mm : Byte) (rr : Byte)
  -- 47_jump_subroutine.md
  /-- JMP (R391). -/
  | jmp (m : Addr)
  /-- JSR (R392). -/
  | jsr (m : Addr)
  /-- BSR (R393). -/
  | bsr (rr : Byte)
  /-- RTS (R394). -/
  | rts
  -- 48_ccr_system.md
  /-- CLC (R401). -/
  | clc
  /-- CLI (R402). -/
  | cli
  /-- CLV (R403). -/
  | clv
  /-- SEC (R404). -/
  | sec
  /-- SEI (R405). -/
  | sei
  /-- SEV (R406). -/
  | sev
  /-- TAP (R407). -/
  | tap
  /-- TPA (R408). -/
  | tpa
  /-- NOP (R409). -/
  | nop
  /-- SWI (R410). -/
  | swi
  /-- RTI (R411). -/
  | rti
  /-- WAI (R412). -/
  | wai
  /-- STOP (R413). -/
  | stop
  /-- TEST (R414). -/
  | test
deriving DecidableEq, Repr

end Sys2Proof
end

