-- ==== Sys2Proof/WellFormed.lean ====
section
/-! DEFINITION. Which instructions have a row in Table 10-1. A constructor's operand type admits two shapes that have
none, and these two checks refuse them (30_encoding.md R112): the one-operand memory instructions have no direct form, and
the bit instructions no extended form. -/

namespace Sys2Proof

/-- NEG, COM, LSR, ROR, ASR, ASL, LSL, ROL, DEC, INC, TST, CLR and JMP have only EXT, IND,X and IND,Y (30_encoding.md
R112). -/
def Addr.notDirect : Addr → Bool
  | .dir _ => false
  | .ext _ | .indX _ | .indY _ => true

/-- BCLR, BSET, BRCLR and BRSET have only DIR, IND,X and IND,Y (30_encoding.md R112). -/
def Addr.notExtended : Addr → Bool
  | .ext _ => false
  | .dir _ | .indX _ | .indY _ => true

/-- The instruction is a form of Table 10-1. -/
def Instr.wellFormed : Instr → Bool
  | .ldaa _ => true
  | .ldab _ => true
  | .ldd _ => true
  | .lds _ => true
  | .ldx _ => true
  | .ldy _ => true
  | .staa _ => true
  | .stab _ => true
  | .std _ => true
  | .sts _ => true
  | .stx _ => true
  | .sty _ => true
  | .tab => true
  | .tba => true
  | .tsx => true
  | .tsy => true
  | .txs => true
  | .tys => true
  | .xgdx => true
  | .xgdy => true
  | .clr m => m.notDirect
  | .clra => true
  | .clrb => true
  | .psha => true
  | .pshb => true
  | .pshx => true
  | .pshy => true
  | .pula => true
  | .pulb => true
  | .pulx => true
  | .puly => true
  | .des => true
  | .ins => true
  | .aba => true
  | .abx => true
  | .aby => true
  | .adca _ => true
  | .adcb _ => true
  | .adda _ => true
  | .addb _ => true
  | .addd _ => true
  | .sba => true
  | .sbca _ => true
  | .sbcb _ => true
  | .suba _ => true
  | .subb _ => true
  | .subd _ => true
  | .cba => true
  | .cmpa _ => true
  | .cmpb _ => true
  | .cpd _ => true
  | .cpx _ => true
  | .cpy _ => true
  | .neg m => m.notDirect
  | .nega => true
  | .negb => true
  | .inc m => m.notDirect
  | .inca => true
  | .incb => true
  | .dec m => m.notDirect
  | .deca => true
  | .decb => true
  | .inx => true
  | .iny => true
  | .dex => true
  | .dey => true
  | .tst m => m.notDirect
  | .tsta => true
  | .tstb => true
  | .daa => true
  | .mul => true
  | .idiv => true
  | .fdiv => true
  | .anda _ => true
  | .andb _ => true
  | .bita _ => true
  | .bitb _ => true
  | .eora _ => true
  | .eorb _ => true
  | .oraa _ => true
  | .orab _ => true
  | .com m => m.notDirect
  | .coma => true
  | .comb => true
  | .bclr m _ => m.notExtended
  | .bset m _ => m.notExtended
  | .asl m => m.notDirect
  | .asla => true
  | .aslb => true
  | .asld => true
  | .asr m => m.notDirect
  | .asra => true
  | .asrb => true
  | .lsl m => m.notDirect
  | .lsla => true
  | .lslb => true
  | .lsld => true
  | .lsr m => m.notDirect
  | .lsra => true
  | .lsrb => true
  | .lsrd => true
  | .rol m => m.notDirect
  | .rola => true
  | .rolb => true
  | .ror m => m.notDirect
  | .rora => true
  | .rorb => true
  | .bcc _ => true
  | .bcs _ => true
  | .beq _ => true
  | .bge _ => true
  | .bgt _ => true
  | .bhi _ => true
  | .bhs _ => true
  | .ble _ => true
  | .blo _ => true
  | .bls _ => true
  | .blt _ => true
  | .bmi _ => true
  | .bne _ => true
  | .bpl _ => true
  | .bra _ => true
  | .brn _ => true
  | .bvc _ => true
  | .bvs _ => true
  | .brclr m _ _ => m.notExtended
  | .brset m _ _ => m.notExtended
  | .jmp m => m.notDirect
  | .jsr _ => true
  | .bsr _ => true
  | .rts => true
  | .clc => true
  | .cli => true
  | .clv => true
  | .sec => true
  | .sei => true
  | .sev => true
  | .tap => true
  | .tpa => true
  | .nop => true
  | .swi => true
  | .rti => true
  | .wai => true
  | .stop => true
  | .test => true

/-- Well-formedness as a proposition, for statements. -/
abbrev Instr.WF (i : Instr) : Prop := i.wellFormed = true

/-- The first name of an instruction that has two (30_encoding.md R122, 92_eei_decisions.md D24); every other instruction
is its own. -/
def Instr.firstName : Instr → Instr
  | .ldaa src => .ldaa src
  | .ldab src => .ldab src
  | .ldd src => .ldd src
  | .lds src => .lds src
  | .ldx src => .ldx src
  | .ldy src => .ldy src
  | .staa m => .staa m
  | .stab m => .stab m
  | .std m => .std m
  | .sts m => .sts m
  | .stx m => .stx m
  | .sty m => .sty m
  | .tab => .tab
  | .tba => .tba
  | .tsx => .tsx
  | .tsy => .tsy
  | .txs => .txs
  | .tys => .tys
  | .xgdx => .xgdx
  | .xgdy => .xgdy
  | .clr m => .clr m
  | .clra => .clra
  | .clrb => .clrb
  | .psha => .psha
  | .pshb => .pshb
  | .pshx => .pshx
  | .pshy => .pshy
  | .pula => .pula
  | .pulb => .pulb
  | .pulx => .pulx
  | .puly => .puly
  | .des => .des
  | .ins => .ins
  | .aba => .aba
  | .abx => .abx
  | .aby => .aby
  | .adca src => .adca src
  | .adcb src => .adcb src
  | .adda src => .adda src
  | .addb src => .addb src
  | .addd src => .addd src
  | .sba => .sba
  | .sbca src => .sbca src
  | .sbcb src => .sbcb src
  | .suba src => .suba src
  | .subb src => .subb src
  | .subd src => .subd src
  | .cba => .cba
  | .cmpa src => .cmpa src
  | .cmpb src => .cmpb src
  | .cpd src => .cpd src
  | .cpx src => .cpx src
  | .cpy src => .cpy src
  | .neg m => .neg m
  | .nega => .nega
  | .negb => .negb
  | .inc m => .inc m
  | .inca => .inca
  | .incb => .incb
  | .dec m => .dec m
  | .deca => .deca
  | .decb => .decb
  | .inx => .inx
  | .iny => .iny
  | .dex => .dex
  | .dey => .dey
  | .tst m => .tst m
  | .tsta => .tsta
  | .tstb => .tstb
  | .daa => .daa
  | .mul => .mul
  | .idiv => .idiv
  | .fdiv => .fdiv
  | .anda src => .anda src
  | .andb src => .andb src
  | .bita src => .bita src
  | .bitb src => .bitb src
  | .eora src => .eora src
  | .eorb src => .eorb src
  | .oraa src => .oraa src
  | .orab src => .orab src
  | .com m => .com m
  | .coma => .coma
  | .comb => .comb
  | .bclr m mm => .bclr m mm
  | .bset m mm => .bset m mm
  | .asl m => .asl m
  | .asla => .asla
  | .aslb => .aslb
  | .asld => .asld
  | .asr m => .asr m
  | .asra => .asra
  | .asrb => .asrb
  | .lsl m => .asl m
  | .lsla => .asla
  | .lslb => .aslb
  | .lsld => .asld
  | .lsr m => .lsr m
  | .lsra => .lsra
  | .lsrb => .lsrb
  | .lsrd => .lsrd
  | .rol m => .rol m
  | .rola => .rola
  | .rolb => .rolb
  | .ror m => .ror m
  | .rora => .rora
  | .rorb => .rorb
  | .bcc rr => .bcc rr
  | .bcs rr => .bcs rr
  | .beq rr => .beq rr
  | .bge rr => .bge rr
  | .bgt rr => .bgt rr
  | .bhi rr => .bhi rr
  | .bhs rr => .bcc rr
  | .ble rr => .ble rr
  | .blo rr => .bcs rr
  | .bls rr => .bls rr
  | .blt rr => .blt rr
  | .bmi rr => .bmi rr
  | .bne rr => .bne rr
  | .bpl rr => .bpl rr
  | .bra rr => .bra rr
  | .brn rr => .brn rr
  | .bvc rr => .bvc rr
  | .bvs rr => .bvs rr
  | .brclr m mm rr => .brclr m mm rr
  | .brset m mm rr => .brset m mm rr
  | .jmp m => .jmp m
  | .jsr m => .jsr m
  | .bsr rr => .bsr rr
  | .rts => .rts
  | .clc => .clc
  | .cli => .cli
  | .clv => .clv
  | .sec => .sec
  | .sei => .sei
  | .sev => .sev
  | .tap => .tap
  | .tpa => .tpa
  | .nop => .nop
  | .swi => .swi
  | .rti => .rti
  | .wai => .wai
  | .stop => .stop
  | .test => .test

end Sys2Proof
end

