-- ==== Sys2Proof/Decode.lean ====
section
/-! DEFINITION. Decoding and encoding. The decoder is one function of where the next bytes come from, so that the fetch
(30_encoding.md R102) and the decoding of a given byte string are the same text. The four opcode maps are 30_encoding.md
R113 to R116, the operand assembly R104 to R112, the illegal encodings R118 and R119. -/

namespace Sys2Proof

/-- What follows the opcode byte, and the instruction it makes (30_encoding.md R101). -/
inductive Form
  /-- No operand byte. -/
  | inh (i : Instr)
  /-- One operand byte: ii, dd, ff or rr. -/
  | byte (f : Byte → Instr)
  /-- Two operand bytes, high byte first: jj kk or hh ll. -/
  | word (f : Word → Instr)
  /-- An address byte and the mask. -/
  | byte2 (f : Byte → Byte → Instr)
  /-- An address byte, the mask and the branch offset. -/
  | byte3 (f : Byte → Byte → Byte → Instr)

/-- What decoding finds: an instruction and its length in bytes, or an opcode byte string that Table 10-1 does not list,
with the bytes read (30_encoding.md R118, R119). -/
inductive Decoded
  | instr (i : Instr) (length : Nat)
  | illegal (bytes : List Byte)
deriving DecidableEq, Repr

/-- Why a byte string is no instruction. -/
inductive Reject
  /-- The bytes end before the instruction does. -/
  | truncated
  /-- An opcode byte string that Table 10-1 does not list (30_encoding.md R118, R119). -/
  | illegalOpcode (bytes : List Byte)
deriving DecidableEq, Repr

/-- Row 0 of the page 1 map (30_encoding.md R113). -/
def pageOneRow0 : List (Byte × Form) :=
  [ (0x00, .inh .test),
    (0x01, .inh .nop),
    (0x02, .inh .idiv),
    (0x03, .inh .fdiv),
    (0x04, .inh .lsrd),
    (0x05, .inh .asld),
    (0x06, .inh .tap),
    (0x07, .inh .tpa),
    (0x08, .inh .inx),
    (0x09, .inh .dex),
    (0x0A, .inh .clv),
    (0x0B, .inh .sev),
    (0x0C, .inh .clc),
    (0x0D, .inh .sec),
    (0x0E, .inh .cli),
    (0x0F, .inh .sei) ]

/-- Row 1 of the page 1 map (30_encoding.md R113). -/
def pageOneRow1 : List (Byte × Form) :=
  [ (0x10, .inh .sba),
    (0x11, .inh .cba),
    (0x12, .byte3 fun b mm rr => .brset (.dir b) mm rr),
    (0x13, .byte3 fun b mm rr => .brclr (.dir b) mm rr),
    (0x14, .byte2 fun b mm => .bset (.dir b) mm),
    (0x15, .byte2 fun b mm => .bclr (.dir b) mm),
    (0x16, .inh .tab),
    (0x17, .inh .tba),
    (0x19, .inh .daa),
    (0x1B, .inh .aba),
    (0x1C, .byte2 fun b mm => .bset (.indX b) mm),
    (0x1D, .byte2 fun b mm => .bclr (.indX b) mm),
    (0x1E, .byte3 fun b mm rr => .brset (.indX b) mm rr),
    (0x1F, .byte3 fun b mm rr => .brclr (.indX b) mm rr) ]

/-- Row 2 of the page 1 map (30_encoding.md R113). -/
def pageOneRow2 : List (Byte × Form) :=
  [ (0x20, .byte .bra),
    (0x21, .byte .brn),
    (0x22, .byte .bhi),
    (0x23, .byte .bls),
    (0x24, .byte .bcc),
    (0x25, .byte .bcs),
    (0x26, .byte .bne),
    (0x27, .byte .beq),
    (0x28, .byte .bvc),
    (0x29, .byte .bvs),
    (0x2A, .byte .bpl),
    (0x2B, .byte .bmi),
    (0x2C, .byte .bge),
    (0x2D, .byte .blt),
    (0x2E, .byte .bgt),
    (0x2F, .byte .ble) ]

/-- Row 3 of the page 1 map (30_encoding.md R113). -/
def pageOneRow3 : List (Byte × Form) :=
  [ (0x30, .inh .tsx),
    (0x31, .inh .ins),
    (0x32, .inh .pula),
    (0x33, .inh .pulb),
    (0x34, .inh .des),
    (0x35, .inh .txs),
    (0x36, .inh .psha),
    (0x37, .inh .pshb),
    (0x38, .inh .pulx),
    (0x39, .inh .rts),
    (0x3A, .inh .abx),
    (0x3B, .inh .rti),
    (0x3C, .inh .pshx),
    (0x3D, .inh .mul),
    (0x3E, .inh .wai),
    (0x3F, .inh .swi) ]

/-- Row 4 of the page 1 map (30_encoding.md R113). -/
def pageOneRow4 : List (Byte × Form) :=
  [ (0x40, .inh .nega),
    (0x43, .inh .coma),
    (0x44, .inh .lsra),
    (0x46, .inh .rora),
    (0x47, .inh .asra),
    (0x48, .inh .asla),
    (0x49, .inh .rola),
    (0x4A, .inh .deca),
    (0x4C, .inh .inca),
    (0x4D, .inh .tsta),
    (0x4F, .inh .clra) ]

/-- Row 5 of the page 1 map (30_encoding.md R113). -/
def pageOneRow5 : List (Byte × Form) :=
  [ (0x50, .inh .negb),
    (0x53, .inh .comb),
    (0x54, .inh .lsrb),
    (0x56, .inh .rorb),
    (0x57, .inh .asrb),
    (0x58, .inh .aslb),
    (0x59, .inh .rolb),
    (0x5A, .inh .decb),
    (0x5C, .inh .incb),
    (0x5D, .inh .tstb),
    (0x5F, .inh .clrb) ]

/-- Row 6 of the page 1 map (30_encoding.md R113). -/
def pageOneRow6 : List (Byte × Form) :=
  [ (0x60, .byte fun b => .neg (.indX b)),
    (0x63, .byte fun b => .com (.indX b)),
    (0x64, .byte fun b => .lsr (.indX b)),
    (0x66, .byte fun b => .ror (.indX b)),
    (0x67, .byte fun b => .asr (.indX b)),
    (0x68, .byte fun b => .asl (.indX b)),
    (0x69, .byte fun b => .rol (.indX b)),
    (0x6A, .byte fun b => .dec (.indX b)),
    (0x6C, .byte fun b => .inc (.indX b)),
    (0x6D, .byte fun b => .tst (.indX b)),
    (0x6E, .byte fun b => .jmp (.indX b)),
    (0x6F, .byte fun b => .clr (.indX b)) ]

/-- Row 7 of the page 1 map (30_encoding.md R113). -/
def pageOneRow7 : List (Byte × Form) :=
  [ (0x70, .word fun hl => .neg (.ext hl)),
    (0x73, .word fun hl => .com (.ext hl)),
    (0x74, .word fun hl => .lsr (.ext hl)),
    (0x76, .word fun hl => .ror (.ext hl)),
    (0x77, .word fun hl => .asr (.ext hl)),
    (0x78, .word fun hl => .asl (.ext hl)),
    (0x79, .word fun hl => .rol (.ext hl)),
    (0x7A, .word fun hl => .dec (.ext hl)),
    (0x7C, .word fun hl => .inc (.ext hl)),
    (0x7D, .word fun hl => .tst (.ext hl)),
    (0x7E, .word fun hl => .jmp (.ext hl)),
    (0x7F, .word fun hl => .clr (.ext hl)) ]

/-- Row 8 of the page 1 map (30_encoding.md R113). -/
def pageOneRow8 : List (Byte × Form) :=
  [ (0x80, .byte fun ii => .suba (.imm ii)),
    (0x81, .byte fun ii => .cmpa (.imm ii)),
    (0x82, .byte fun ii => .sbca (.imm ii)),
    (0x83, .word fun jk => .subd (.imm jk)),
    (0x84, .byte fun ii => .anda (.imm ii)),
    (0x85, .byte fun ii => .bita (.imm ii)),
    (0x86, .byte fun ii => .ldaa (.imm ii)),
    (0x88, .byte fun ii => .eora (.imm ii)),
    (0x89, .byte fun ii => .adca (.imm ii)),
    (0x8A, .byte fun ii => .oraa (.imm ii)),
    (0x8B, .byte fun ii => .adda (.imm ii)),
    (0x8C, .word fun jk => .cpx (.imm jk)),
    (0x8D, .byte .bsr),
    (0x8E, .word fun jk => .lds (.imm jk)),
    (0x8F, .inh .xgdx) ]

/-- Row 9 of the page 1 map (30_encoding.md R113). -/
def pageOneRow9 : List (Byte × Form) :=
  [ (0x90, .byte fun b => .suba (.mem (.dir b))),
    (0x91, .byte fun b => .cmpa (.mem (.dir b))),
    (0x92, .byte fun b => .sbca (.mem (.dir b))),
    (0x93, .byte fun b => .subd (.mem (.dir b))),
    (0x94, .byte fun b => .anda (.mem (.dir b))),
    (0x95, .byte fun b => .bita (.mem (.dir b))),
    (0x96, .byte fun b => .ldaa (.mem (.dir b))),
    (0x97, .byte fun b => .staa (.dir b)),
    (0x98, .byte fun b => .eora (.mem (.dir b))),
    (0x99, .byte fun b => .adca (.mem (.dir b))),
    (0x9A, .byte fun b => .oraa (.mem (.dir b))),
    (0x9B, .byte fun b => .adda (.mem (.dir b))),
    (0x9C, .byte fun b => .cpx (.mem (.dir b))),
    (0x9D, .byte fun b => .jsr (.dir b)),
    (0x9E, .byte fun b => .lds (.mem (.dir b))),
    (0x9F, .byte fun b => .sts (.dir b)) ]

/-- Row A of the page 1 map (30_encoding.md R113). -/
def pageOneRowA : List (Byte × Form) :=
  [ (0xA0, .byte fun b => .suba (.mem (.indX b))),
    (0xA1, .byte fun b => .cmpa (.mem (.indX b))),
    (0xA2, .byte fun b => .sbca (.mem (.indX b))),
    (0xA3, .byte fun b => .subd (.mem (.indX b))),
    (0xA4, .byte fun b => .anda (.mem (.indX b))),
    (0xA5, .byte fun b => .bita (.mem (.indX b))),
    (0xA6, .byte fun b => .ldaa (.mem (.indX b))),
    (0xA7, .byte fun b => .staa (.indX b)),
    (0xA8, .byte fun b => .eora (.mem (.indX b))),
    (0xA9, .byte fun b => .adca (.mem (.indX b))),
    (0xAA, .byte fun b => .oraa (.mem (.indX b))),
    (0xAB, .byte fun b => .adda (.mem (.indX b))),
    (0xAC, .byte fun b => .cpx (.mem (.indX b))),
    (0xAD, .byte fun b => .jsr (.indX b)),
    (0xAE, .byte fun b => .lds (.mem (.indX b))),
    (0xAF, .byte fun b => .sts (.indX b)) ]

/-- Row B of the page 1 map (30_encoding.md R113). -/
def pageOneRowB : List (Byte × Form) :=
  [ (0xB0, .word fun hl => .suba (.mem (.ext hl))),
    (0xB1, .word fun hl => .cmpa (.mem (.ext hl))),
    (0xB2, .word fun hl => .sbca (.mem (.ext hl))),
    (0xB3, .word fun hl => .subd (.mem (.ext hl))),
    (0xB4, .word fun hl => .anda (.mem (.ext hl))),
    (0xB5, .word fun hl => .bita (.mem (.ext hl))),
    (0xB6, .word fun hl => .ldaa (.mem (.ext hl))),
    (0xB7, .word fun hl => .staa (.ext hl)),
    (0xB8, .word fun hl => .eora (.mem (.ext hl))),
    (0xB9, .word fun hl => .adca (.mem (.ext hl))),
    (0xBA, .word fun hl => .oraa (.mem (.ext hl))),
    (0xBB, .word fun hl => .adda (.mem (.ext hl))),
    (0xBC, .word fun hl => .cpx (.mem (.ext hl))),
    (0xBD, .word fun hl => .jsr (.ext hl)),
    (0xBE, .word fun hl => .lds (.mem (.ext hl))),
    (0xBF, .word fun hl => .sts (.ext hl)) ]

/-- Row C of the page 1 map (30_encoding.md R113). -/
def pageOneRowC : List (Byte × Form) :=
  [ (0xC0, .byte fun ii => .subb (.imm ii)),
    (0xC1, .byte fun ii => .cmpb (.imm ii)),
    (0xC2, .byte fun ii => .sbcb (.imm ii)),
    (0xC3, .word fun jk => .addd (.imm jk)),
    (0xC4, .byte fun ii => .andb (.imm ii)),
    (0xC5, .byte fun ii => .bitb (.imm ii)),
    (0xC6, .byte fun ii => .ldab (.imm ii)),
    (0xC8, .byte fun ii => .eorb (.imm ii)),
    (0xC9, .byte fun ii => .adcb (.imm ii)),
    (0xCA, .byte fun ii => .orab (.imm ii)),
    (0xCB, .byte fun ii => .addb (.imm ii)),
    (0xCC, .word fun jk => .ldd (.imm jk)),
    (0xCE, .word fun jk => .ldx (.imm jk)),
    (0xCF, .inh .stop) ]

/-- Row D of the page 1 map (30_encoding.md R113). -/
def pageOneRowD : List (Byte × Form) :=
  [ (0xD0, .byte fun b => .subb (.mem (.dir b))),
    (0xD1, .byte fun b => .cmpb (.mem (.dir b))),
    (0xD2, .byte fun b => .sbcb (.mem (.dir b))),
    (0xD3, .byte fun b => .addd (.mem (.dir b))),
    (0xD4, .byte fun b => .andb (.mem (.dir b))),
    (0xD5, .byte fun b => .bitb (.mem (.dir b))),
    (0xD6, .byte fun b => .ldab (.mem (.dir b))),
    (0xD7, .byte fun b => .stab (.dir b)),
    (0xD8, .byte fun b => .eorb (.mem (.dir b))),
    (0xD9, .byte fun b => .adcb (.mem (.dir b))),
    (0xDA, .byte fun b => .orab (.mem (.dir b))),
    (0xDB, .byte fun b => .addb (.mem (.dir b))),
    (0xDC, .byte fun b => .ldd (.mem (.dir b))),
    (0xDD, .byte fun b => .std (.dir b)),
    (0xDE, .byte fun b => .ldx (.mem (.dir b))),
    (0xDF, .byte fun b => .stx (.dir b)) ]

/-- Row E of the page 1 map (30_encoding.md R113). -/
def pageOneRowE : List (Byte × Form) :=
  [ (0xE0, .byte fun b => .subb (.mem (.indX b))),
    (0xE1, .byte fun b => .cmpb (.mem (.indX b))),
    (0xE2, .byte fun b => .sbcb (.mem (.indX b))),
    (0xE3, .byte fun b => .addd (.mem (.indX b))),
    (0xE4, .byte fun b => .andb (.mem (.indX b))),
    (0xE5, .byte fun b => .bitb (.mem (.indX b))),
    (0xE6, .byte fun b => .ldab (.mem (.indX b))),
    (0xE7, .byte fun b => .stab (.indX b)),
    (0xE8, .byte fun b => .eorb (.mem (.indX b))),
    (0xE9, .byte fun b => .adcb (.mem (.indX b))),
    (0xEA, .byte fun b => .orab (.mem (.indX b))),
    (0xEB, .byte fun b => .addb (.mem (.indX b))),
    (0xEC, .byte fun b => .ldd (.mem (.indX b))),
    (0xED, .byte fun b => .std (.indX b)),
    (0xEE, .byte fun b => .ldx (.mem (.indX b))),
    (0xEF, .byte fun b => .stx (.indX b)) ]

/-- Row F of the page 1 map (30_encoding.md R113). -/
def pageOneRowF : List (Byte × Form) :=
  [ (0xF0, .word fun hl => .subb (.mem (.ext hl))),
    (0xF1, .word fun hl => .cmpb (.mem (.ext hl))),
    (0xF2, .word fun hl => .sbcb (.mem (.ext hl))),
    (0xF3, .word fun hl => .addd (.mem (.ext hl))),
    (0xF4, .word fun hl => .andb (.mem (.ext hl))),
    (0xF5, .word fun hl => .bitb (.mem (.ext hl))),
    (0xF6, .word fun hl => .ldab (.mem (.ext hl))),
    (0xF7, .word fun hl => .stab (.ext hl)),
    (0xF8, .word fun hl => .eorb (.mem (.ext hl))),
    (0xF9, .word fun hl => .adcb (.mem (.ext hl))),
    (0xFA, .word fun hl => .orab (.mem (.ext hl))),
    (0xFB, .word fun hl => .addb (.mem (.ext hl))),
    (0xFC, .word fun hl => .ldd (.mem (.ext hl))),
    (0xFD, .word fun hl => .std (.ext hl)),
    (0xFE, .word fun hl => .ldx (.mem (.ext hl))),
    (0xFF, .word fun hl => .stx (.ext hl)) ]

/-- Page 1: opcodes without a prebyte, 233 entries (30_encoding.md R113). -/
def pageOne : List (Byte × Form) :=
  pageOneRow0 ++ pageOneRow1 ++ pageOneRow2 ++ pageOneRow3 ++ pageOneRow4 ++ pageOneRow5 ++ pageOneRow6 ++ pageOneRow7 ++ pageOneRow8 ++ pageOneRow9 ++ pageOneRowA ++ pageOneRowB ++ pageOneRowC ++ pageOneRowD ++ pageOneRowE ++ pageOneRowF

/-- Page 2, second bytes with a high digit of 0, 1, 3, 6 (30_encoding.md R114). -/
def pageTwoLow : List (Byte × Form) :=
  [ (0x08, .inh .iny),
    (0x09, .inh .dey),
    (0x1C, .byte2 fun b mm => .bset (.indY b) mm),
    (0x1D, .byte2 fun b mm => .bclr (.indY b) mm),
    (0x1E, .byte3 fun b mm rr => .brset (.indY b) mm rr),
    (0x1F, .byte3 fun b mm rr => .brclr (.indY b) mm rr),
    (0x30, .inh .tsy),
    (0x35, .inh .tys),
    (0x38, .inh .puly),
    (0x3A, .inh .aby),
    (0x3C, .inh .pshy),
    (0x60, .byte fun b => .neg (.indY b)),
    (0x63, .byte fun b => .com (.indY b)),
    (0x64, .byte fun b => .lsr (.indY b)),
    (0x66, .byte fun b => .ror (.indY b)),
    (0x67, .byte fun b => .asr (.indY b)),
    (0x68, .byte fun b => .asl (.indY b)),
    (0x69, .byte fun b => .rol (.indY b)),
    (0x6A, .byte fun b => .dec (.indY b)),
    (0x6C, .byte fun b => .inc (.indY b)),
    (0x6D, .byte fun b => .tst (.indY b)),
    (0x6E, .byte fun b => .jmp (.indY b)),
    (0x6F, .byte fun b => .clr (.indY b)) ]

/-- Page 2, second bytes with a high digit of 8, 9, A (30_encoding.md R114). -/
def pageTwoEight : List (Byte × Form) :=
  [ (0x8C, .word fun jk => .cpy (.imm jk)),
    (0x8F, .inh .xgdy),
    (0x9C, .byte fun b => .cpy (.mem (.dir b))),
    (0xA0, .byte fun b => .suba (.mem (.indY b))),
    (0xA1, .byte fun b => .cmpa (.mem (.indY b))),
    (0xA2, .byte fun b => .sbca (.mem (.indY b))),
    (0xA3, .byte fun b => .subd (.mem (.indY b))),
    (0xA4, .byte fun b => .anda (.mem (.indY b))),
    (0xA5, .byte fun b => .bita (.mem (.indY b))),
    (0xA6, .byte fun b => .ldaa (.mem (.indY b))),
    (0xA7, .byte fun b => .staa (.indY b)),
    (0xA8, .byte fun b => .eora (.mem (.indY b))),
    (0xA9, .byte fun b => .adca (.mem (.indY b))),
    (0xAA, .byte fun b => .oraa (.mem (.indY b))),
    (0xAB, .byte fun b => .adda (.mem (.indY b))),
    (0xAC, .byte fun b => .cpy (.mem (.indY b))),
    (0xAD, .byte fun b => .jsr (.indY b)),
    (0xAE, .byte fun b => .lds (.mem (.indY b))),
    (0xAF, .byte fun b => .sts (.indY b)) ]

/-- Page 2, second bytes with a high digit of B, C, D, E, F (30_encoding.md R114). -/
def pageTwoHigh : List (Byte × Form) :=
  [ (0xBC, .word fun hl => .cpy (.mem (.ext hl))),
    (0xCE, .word fun jk => .ldy (.imm jk)),
    (0xDE, .byte fun b => .ldy (.mem (.dir b))),
    (0xDF, .byte fun b => .sty (.dir b)),
    (0xE0, .byte fun b => .subb (.mem (.indY b))),
    (0xE1, .byte fun b => .cmpb (.mem (.indY b))),
    (0xE2, .byte fun b => .sbcb (.mem (.indY b))),
    (0xE3, .byte fun b => .addd (.mem (.indY b))),
    (0xE4, .byte fun b => .andb (.mem (.indY b))),
    (0xE5, .byte fun b => .bitb (.mem (.indY b))),
    (0xE6, .byte fun b => .ldab (.mem (.indY b))),
    (0xE7, .byte fun b => .stab (.indY b)),
    (0xE8, .byte fun b => .eorb (.mem (.indY b))),
    (0xE9, .byte fun b => .adcb (.mem (.indY b))),
    (0xEA, .byte fun b => .orab (.mem (.indY b))),
    (0xEB, .byte fun b => .addb (.mem (.indY b))),
    (0xEC, .byte fun b => .ldd (.mem (.indY b))),
    (0xED, .byte fun b => .std (.indY b)),
    (0xEE, .byte fun b => .ldy (.mem (.indY b))),
    (0xEF, .byte fun b => .sty (.indY b)),
    (0xFE, .word fun hl => .ldy (.mem (.ext hl))),
    (0xFF, .word fun hl => .sty (.ext hl)) ]

/-- Page 2: opcodes after the prebyte 18, 64 entries (30_encoding.md R114). -/
def pageTwo : List (Byte × Form) := pageTwoLow ++ pageTwoEight ++ pageTwoHigh

/-- Page 3: opcodes after the prebyte 1A, 7 entries (30_encoding.md R115). -/
def pageThree : List (Byte × Form) :=
  [ (0x83, .word fun jk => .cpd (.imm jk)),
    (0x93, .byte fun b => .cpd (.mem (.dir b))),
    (0xA3, .byte fun b => .cpd (.mem (.indX b))),
    (0xAC, .byte fun b => .cpy (.mem (.indX b))),
    (0xB3, .word fun hl => .cpd (.mem (.ext hl))),
    (0xEE, .byte fun b => .ldy (.mem (.indX b))),
    (0xEF, .byte fun b => .sty (.indX b)) ]

/-- Page 4: opcodes after the prebyte CD, 4 entries (30_encoding.md R116). -/
def pageFour : List (Byte × Form) :=
  [ (0xA3, .byte fun b => .cpd (.mem (.indY b))),
    (0xAC, .byte fun b => .cpx (.mem (.indY b))),
    (0xEE, .byte fun b => .ldx (.mem (.indY b))),
    (0xEF, .byte fun b => .stx (.indY b)) ]

/-- The map a prebyte selects (30_encoding.md R102, R103); any other byte is an opcode of page 1. -/
def prebytePage (b : Byte) : Option (List (Byte × Form)) :=
  if b = 0x18 then some pageTwo
  else if b = 0x1A then some pageThree
  else if b = 0xCD then some pageFour
  else none

/-- The entry of an opcode byte in a map (30_encoding.md R102). -/
def lookupForm : List (Byte × Form) → Byte → Option Form
  | [], _ => none
  | (k, f) :: rest, b => if b = k then some f else lookupForm rest b

/-- Fetch the operand bytes, which start at offset `n`, in the order of 30_encoding.md R101, and assemble the operands
(R104 to R112). -/
def Form.assemble {ε : Type} (get : Nat → Except ε Byte) (n : Nat) : Form → Except ε Decoded
  | .inh i => .ok (.instr i n)
  | .byte f => do
      let x ← get n
      .ok (.instr (f x) (n + 1))
  | .word f => do
      let h ← get n
      let l ← get (n + 1)
      .ok (.instr (f (Machine.joinBytes h l)) (n + 2))
  | .byte2 f => do
      let x ← get n
      let mm ← get (n + 1)
      .ok (.instr (f x mm) (n + 2))
  | .byte3 f => do
      let x ← get n
      let mm ← get (n + 1)
      let rr ← get (n + 2)
      .ok (.instr (f x mm rr) (n + 3))

/-- The decoding of 30_encoding.md R102: `get k` is the byte at offset `k` from the first byte of the instruction. A miss
in the selected map is an illegal opcode, reported with the bytes read (R118, R119). -/
def decodeWith {ε : Type} (get : Nat → Except ε Byte) : Except ε Decoded := do
  let b0 ← get 0
  match prebytePage b0 with
  | some page => do
      let op ← get 1
      match lookupForm page op with
      | some form => form.assemble get 2
      | none => .ok (.illegal [b0, op])
  | none =>
      match lookupForm pageOne b0 with
      | some form => form.assemble get 1
      | none => .ok (.illegal [b0])

/-- The byte at an offset of a given byte string. -/
def byteAt (bytes : List Byte) (k : Nat) : Except Reject Byte :=
  match bytes[k]? with
  | some b => .ok b
  | none => .error .truncated

/-- Decode the instruction at the start of a byte string: the instruction and its length, or the reason there is none. -/
def decode (bytes : List Byte) : Except Reject (Instr × Nat) :=
  match decodeWith (byteAt bytes) with
  | .ok (.instr i n) => .ok (i, n)
  | .ok (.illegal bs) => .error (.illegalOpcode bs)
  | .error r => .error r

/-- The `n` bytes of a number, the least significant first: the numbering of the host's table words. -/
def leBytes : Nat → Nat → List Byte
  | 0, _ => []
  | n + 1, w => BitVec.ofNat 8 w :: leBytes n (w / 256)

/-- The longest instruction: BRCLR and BRSET indexed by Y (00_scope.md R6). -/
def maxLength : Nat := 5

/-- The instruction read from an instruction whose low `nbits` bits are `w` and whose further bits are 0, the first byte
least significant. -/
def decodeTableWord (nbits w : Nat) : Option Instr :=
  match decode (leBytes maxLength (w % 2 ^ nbits)) with
  | .ok (i, _) => some i
  | .error _ => none

/-! ### Encoding, written from the encoding tables of each instruction's rule. The arguments are the opcode strings of the
forms in the order the operand type lists them; an address shape that has no form has no bytes. -/

/-- DIR, EXT, IND,X and IND,Y forms of one memory operand (30_encoding.md R106 to R109). -/
def Addr.code4 (dir ext x y : List Byte) : Addr → List Byte
  | .dir dd => dir ++ [dd]
  | .ext hl => ext ++ [Machine.hiByte hl, Machine.loByte hl]
  | .indX ff => x ++ [ff]
  | .indY ff => y ++ [ff]

/-- EXT, IND,X and IND,Y forms of one memory operand (30_encoding.md R112). -/
def Addr.code3 (ext x y : List Byte) : Addr → List Byte
  | .dir _ => []
  | .ext hl => ext ++ [Machine.hiByte hl, Machine.loByte hl]
  | .indX ff => x ++ [ff]
  | .indY ff => y ++ [ff]

/-- DIR, IND,X and IND,Y forms of the bit instructions; `rest` is the mask, and the offset of a branch (30_encoding.md
R111, R112). -/
def Addr.codeBit (dir x y rest : List Byte) : Addr → List Byte
  | .dir dd => dir ++ dd :: rest
  | .ext _ => []
  | .indX ff => x ++ ff :: rest
  | .indY ff => y ++ ff :: rest

/-- IMM and the four memory forms of an 8-bit source operand (30_encoding.md R104). -/
def Src8.code (imm dir ext x y : List Byte) : Src8 → List Byte
  | .imm ii => imm ++ [ii]
  | .mem m => m.code4 dir ext x y

/-- IMM and the four memory forms of a 16-bit source operand (30_encoding.md R105). -/
def Src16.code (imm dir ext x y : List Byte) : Src16 → List Byte
  | .imm jk => imm ++ [Machine.hiByte jk, Machine.loByte jk]
  | .mem m => m.code4 dir ext x y

/-- The bytes of a well-formed instruction, lowest address first. -/
def encode : Instr → List Byte
  | .ldaa src => src.code [0x86] [0x96] [0xB6] [0xA6] [0x18, 0xA6]
  | .ldab src => src.code [0xC6] [0xD6] [0xF6] [0xE6] [0x18, 0xE6]
  | .ldd src => src.code [0xCC] [0xDC] [0xFC] [0xEC] [0x18, 0xEC]
  | .lds src => src.code [0x8E] [0x9E] [0xBE] [0xAE] [0x18, 0xAE]
  | .ldx src => src.code [0xCE] [0xDE] [0xFE] [0xEE] [0xCD, 0xEE]
  | .ldy src => src.code [0x18, 0xCE] [0x18, 0xDE] [0x18, 0xFE] [0x1A, 0xEE] [0x18, 0xEE]
  | .staa m => m.code4 [0x97] [0xB7] [0xA7] [0x18, 0xA7]
  | .stab m => m.code4 [0xD7] [0xF7] [0xE7] [0x18, 0xE7]
  | .std m => m.code4 [0xDD] [0xFD] [0xED] [0x18, 0xED]
  | .sts m => m.code4 [0x9F] [0xBF] [0xAF] [0x18, 0xAF]
  | .stx m => m.code4 [0xDF] [0xFF] [0xEF] [0xCD, 0xEF]
  | .sty m => m.code4 [0x18, 0xDF] [0x18, 0xFF] [0x1A, 0xEF] [0x18, 0xEF]
  | .tab => [0x16]
  | .tba => [0x17]
  | .tsx => [0x30]
  | .tsy => [0x18, 0x30]
  | .txs => [0x35]
  | .tys => [0x18, 0x35]
  | .xgdx => [0x8F]
  | .xgdy => [0x18, 0x8F]
  | .clr m => m.code3 [0x7F] [0x6F] [0x18, 0x6F]
  | .clra => [0x4F]
  | .clrb => [0x5F]
  | .psha => [0x36]
  | .pshb => [0x37]
  | .pshx => [0x3C]
  | .pshy => [0x18, 0x3C]
  | .pula => [0x32]
  | .pulb => [0x33]
  | .pulx => [0x38]
  | .puly => [0x18, 0x38]
  | .des => [0x34]
  | .ins => [0x31]
  | .aba => [0x1B]
  | .abx => [0x3A]
  | .aby => [0x18, 0x3A]
  | .adca src => src.code [0x89] [0x99] [0xB9] [0xA9] [0x18, 0xA9]
  | .adcb src => src.code [0xC9] [0xD9] [0xF9] [0xE9] [0x18, 0xE9]
  | .adda src => src.code [0x8B] [0x9B] [0xBB] [0xAB] [0x18, 0xAB]
  | .addb src => src.code [0xCB] [0xDB] [0xFB] [0xEB] [0x18, 0xEB]
  | .addd src => src.code [0xC3] [0xD3] [0xF3] [0xE3] [0x18, 0xE3]
  | .sba => [0x10]
  | .sbca src => src.code [0x82] [0x92] [0xB2] [0xA2] [0x18, 0xA2]
  | .sbcb src => src.code [0xC2] [0xD2] [0xF2] [0xE2] [0x18, 0xE2]
  | .suba src => src.code [0x80] [0x90] [0xB0] [0xA0] [0x18, 0xA0]
  | .subb src => src.code [0xC0] [0xD0] [0xF0] [0xE0] [0x18, 0xE0]
  | .subd src => src.code [0x83] [0x93] [0xB3] [0xA3] [0x18, 0xA3]
  | .cba => [0x11]
  | .cmpa src => src.code [0x81] [0x91] [0xB1] [0xA1] [0x18, 0xA1]
  | .cmpb src => src.code [0xC1] [0xD1] [0xF1] [0xE1] [0x18, 0xE1]
  | .cpd src => src.code [0x1A, 0x83] [0x1A, 0x93] [0x1A, 0xB3] [0x1A, 0xA3] [0xCD, 0xA3]
  | .cpx src => src.code [0x8C] [0x9C] [0xBC] [0xAC] [0xCD, 0xAC]
  | .cpy src => src.code [0x18, 0x8C] [0x18, 0x9C] [0x18, 0xBC] [0x1A, 0xAC] [0x18, 0xAC]
  | .neg m => m.code3 [0x70] [0x60] [0x18, 0x60]
  | .nega => [0x40]
  | .negb => [0x50]
  | .inc m => m.code3 [0x7C] [0x6C] [0x18, 0x6C]
  | .inca => [0x4C]
  | .incb => [0x5C]
  | .dec m => m.code3 [0x7A] [0x6A] [0x18, 0x6A]
  | .deca => [0x4A]
  | .decb => [0x5A]
  | .inx => [0x08]
  | .iny => [0x18, 0x08]
  | .dex => [0x09]
  | .dey => [0x18, 0x09]
  | .tst m => m.code3 [0x7D] [0x6D] [0x18, 0x6D]
  | .tsta => [0x4D]
  | .tstb => [0x5D]
  | .daa => [0x19]
  | .mul => [0x3D]
  | .idiv => [0x02]
  | .fdiv => [0x03]
  | .anda src => src.code [0x84] [0x94] [0xB4] [0xA4] [0x18, 0xA4]
  | .andb src => src.code [0xC4] [0xD4] [0xF4] [0xE4] [0x18, 0xE4]
  | .bita src => src.code [0x85] [0x95] [0xB5] [0xA5] [0x18, 0xA5]
  | .bitb src => src.code [0xC5] [0xD5] [0xF5] [0xE5] [0x18, 0xE5]
  | .eora src => src.code [0x88] [0x98] [0xB8] [0xA8] [0x18, 0xA8]
  | .eorb src => src.code [0xC8] [0xD8] [0xF8] [0xE8] [0x18, 0xE8]
  | .oraa src => src.code [0x8A] [0x9A] [0xBA] [0xAA] [0x18, 0xAA]
  | .orab src => src.code [0xCA] [0xDA] [0xFA] [0xEA] [0x18, 0xEA]
  | .com m => m.code3 [0x73] [0x63] [0x18, 0x63]
  | .coma => [0x43]
  | .comb => [0x53]
  | .bclr m mm => m.codeBit [0x15] [0x1D] [0x18, 0x1D] [mm]
  | .bset m mm => m.codeBit [0x14] [0x1C] [0x18, 0x1C] [mm]
  | .asl m => m.code3 [0x78] [0x68] [0x18, 0x68]
  | .asla => [0x48]
  | .aslb => [0x58]
  | .asld => [0x05]
  | .asr m => m.code3 [0x77] [0x67] [0x18, 0x67]
  | .asra => [0x47]
  | .asrb => [0x57]
  | .lsl m => m.code3 [0x78] [0x68] [0x18, 0x68]
  | .lsla => [0x48]
  | .lslb => [0x58]
  | .lsld => [0x05]
  | .lsr m => m.code3 [0x74] [0x64] [0x18, 0x64]
  | .lsra => [0x44]
  | .lsrb => [0x54]
  | .lsrd => [0x04]
  | .rol m => m.code3 [0x79] [0x69] [0x18, 0x69]
  | .rola => [0x49]
  | .rolb => [0x59]
  | .ror m => m.code3 [0x76] [0x66] [0x18, 0x66]
  | .rora => [0x46]
  | .rorb => [0x56]
  | .bcc rr => [0x24, rr]
  | .bcs rr => [0x25, rr]
  | .beq rr => [0x27, rr]
  | .bge rr => [0x2C, rr]
  | .bgt rr => [0x2E, rr]
  | .bhi rr => [0x22, rr]
  | .bhs rr => [0x24, rr]
  | .ble rr => [0x2F, rr]
  | .blo rr => [0x25, rr]
  | .bls rr => [0x23, rr]
  | .blt rr => [0x2D, rr]
  | .bmi rr => [0x2B, rr]
  | .bne rr => [0x26, rr]
  | .bpl rr => [0x2A, rr]
  | .bra rr => [0x20, rr]
  | .brn rr => [0x21, rr]
  | .bvc rr => [0x28, rr]
  | .bvs rr => [0x29, rr]
  | .brclr m mm rr => m.codeBit [0x13] [0x1F] [0x18, 0x1F] [mm, rr]
  | .brset m mm rr => m.codeBit [0x12] [0x1E] [0x18, 0x1E] [mm, rr]
  | .jmp m => m.code3 [0x7E] [0x6E] [0x18, 0x6E]
  | .jsr m => m.code4 [0x9D] [0xBD] [0xAD] [0x18, 0xAD]
  | .bsr rr => [0x8D, rr]
  | .rts => [0x39]
  | .clc => [0x0C]
  | .cli => [0x0E]
  | .clv => [0x0A]
  | .sec => [0x0D]
  | .sei => [0x0F]
  | .sev => [0x0B]
  | .tap => [0x06]
  | .tpa => [0x07]
  | .nop => [0x01]
  | .swi => [0x3F]
  | .rti => [0x3B]
  | .wai => [0x3E]
  | .stop => [0xCF]
  | .test => [0x00]

end Sys2Proof
end

