-- ==== Sys2Proof/Machine/Memory.lean ====
section
/-! DEFINITION. Memory as plain data: the bytes that hold a value, listed with strictly rising addresses. A byte that is
not listed holds no value (10_state.md R56, R57), so no listed entry equals what an unlisted address reads as, and two
memories that hold the same values are the same list. -/

namespace Sys2Proof.Machine

/-- The bytes of the address space that hold a value (20_memory.md R70, R71). -/
abbrev Memory := List Host.Cell

/-- What an unlisted address reads as: no value. The operation that reads memory turns it into a fault (10_state.md R57,
93_implementation_defined.md U5, U9). -/
def Memory.unlisted : Option Byte := none

/-- The byte an address holds, if it holds one. -/
def Memory.read : Memory → Nat → Option Byte
  | [], _ => Memory.unlisted
  | (k, v) :: rest, a => if a = k then some v else Memory.read rest a

/-- Store a byte. Every byte is a value, so a store never removes an entry. -/
def Memory.write : Memory → Nat → Byte → Memory
  | [], a, b => [(a, b)]
  | (k, v) :: rest, a, b =>
      if a = k then (a, b) :: rest
      else if a < k then (a, b) :: (k, v) :: rest
      else (k, v) :: Memory.write rest a b

/-- Every address listed is above `lo`, below 2^16, and they strictly rise. -/
def Memory.risesFrom : Nat → Memory → Bool
  | _, [] => true
  | lo, (k, _) :: rest => decide (lo ≤ k) && decide (k < 65536) && Memory.risesFrom (k + 1) rest

/-- The canonical form: addresses strictly rising and inside the address space (20_memory.md R70). -/
def Memory.wf (m : Memory) : Bool := Memory.risesFrom 0 m

end Sys2Proof.Machine
end

