-- ==== Sys2Proof/Config.lean ====
section
/-! DEFINITION. What the spec leaves to the platform or leaves free: the names of the reset and interrupt sources, the
parameters of 00_scope.md R6 as one record, what the environment presents at a step boundary, what the devices of a
platform answer, and the free values (draws) of 00_scope.md R16. -/

namespace Sys2Proof.Config

/-- The reset-class sources (60_exceptions.md R423(a)). -/
inductive ResetSource
  | reset
  | clockMonitor
  | cop
deriving DecidableEq, Repr

/-- The interrupt sources: XIRQ, masked by CCR.X, and the sources masked by CCR.I, IRQ and the fourteen on-chip sources RTII
to SCI (60_exceptions.md R420, R423). R423 counts fifteen on-chip sources and names none that R420's table lacks; the table's
fourteen are the model's choice. DESIGN CHOICE, log 16. -/
inductive IntSource
  | xirq
  | irq
  | rtii
  | tic1
  | tic2
  | tic3
  | toc1
  | toc2
  | toc3
  | toc4
  | toc5
  | tof
  | paov
  | paie
  | spi
  | sci
deriving DecidableEq, Repr

/-- Every exception source that has a vector (60_exceptions.md R420). -/
inductive Source
  | reset (r : ResetSource)
  | interrupt (i : IntSource)
  | illop
  | swi
deriving DecidableEq, Repr

/-- The parameter `Vectors`: the address of the 2-byte vector of each source (60_exceptions.md R420, 92_eei_decisions.md
D14). -/
structure VectorTable where
  reset : Word
  clockMonitor : Word
  cop : Word
  xirq : Word
  illop : Word
  swi : Word
  irq : Word
  rtii : Word
  tic1 : Word
  tic2 : Word
  tic3 : Word
  toc1 : Word
  toc2 : Word
  toc3 : Word
  toc4 : Word
  toc5 : Word
  tof : Word
  paov : Word
  paie : Word
  spi : Word
  sci : Word
deriving DecidableEq, Repr

/-- The parameter `IllegalOpcodePolicy` (30_encoding.md R118, 92_eei_decisions.md D9). -/
inductive IllegalOpcodePolicy
  | fault
  | trap
deriving DecidableEq, Repr

/-- The parameter `DaaDomain` (42_arithmetic.md R287, 93_implementation_defined.md U4). -/
inductive DaaDomain
  | total
  | refuse
deriving DecidableEq, Repr

/-- What a platform may hold at an address (20_memory.md R71, R84). -/
inductive RegionKind
  | ram
  | rom
  | device
  | absent
deriving DecidableEq, Repr

/-- One record of the platform's map: `size` addresses from `base` (20_memory.md R71). -/
structure Region where
  base : Nat
  size : Nat
  kind : RegionKind
deriving DecidableEq, Repr

/-- The parameters of 00_scope.md R6. The first region that holds an address decides its kind; an address in no region
is RAM. `priority` lists the exception sources that exist, the first rank first (60_exceptions.md R420, R426). -/
structure Params where
  vectors : VectorTable
  priority : List Source
  illegalOpcode : IllegalOpcodePolicy
  testMode : Bool
  daaDomain : DaaDomain
  regions : List Region
deriving DecidableEq, Repr

/-- What the environment presents at one step boundary: a reset, and the set `P` of pending sources, in which a reset-class
source may stand too (60_exceptions.md R424, R425). -/
structure EnvInput where
  reset : Option ResetSource
  pending : List Source
deriving DecidableEq, Repr

/-- What a device can see of the machine: a read or a write of one of its addresses (20_memory.md R71, R91), and a reset,
which re-initialises it (70_reset_and_hazards.md R471). -/
inductive DeviceEvent
  | read (address : Word)
  | write (address : Word) (value : Byte)
  | reset (source : ResetSource)
deriving DecidableEq, Repr

/-- The read function of a platform's devices (20_memory.md R71): the byte that a read of the address answers after these
events, the latest first. The events are the state of the devices: whatever a device does with them, its answers are some
function of them. No body: the rule is the platform's own, and nothing can be proved of a value. DESIGN CHOICE, log 26. -/
opaque deviceByte : List DeviceEvent → Word → Byte

/-- A free byte: the `n`-th draw of a run (00_scope.md R16). No body: nothing can be proved of its value. -/
opaque freeByte : Nat → Byte

/-- A free word: the `n`-th draw of a run (93_implementation_defined.md U2, U3). -/
opaque freeWord : Nat → Word

/-- A free bit: the `n`-th draw of a run (93_implementation_defined.md U1). -/
opaque freeBit : Nat → Bool

end Sys2Proof.Config
end

