-- ==== Sys2Proof/Machine/Platform.lean ====
section
/-! DEFINITION. The default parameters of 60_exceptions.md R420 and 00_scope.md R6, and the questions the machine asks of
its parameters: where a source's vector lies, and what stands at an address. -/

namespace Sys2Proof.Machine

open Sys2Proof.Config

/-- The default vector addresses (60_exceptions.md R420). -/
def defaultVectors : VectorTable where
  reset := 0xFFFE
  clockMonitor := 0xFFFC
  cop := 0xFFFA
  xirq := 0xFFF4
  illop := 0xFFF8
  swi := 0xFFF6
  irq := 0xFFF2
  rtii := 0xFFF0
  tic1 := 0xFFEE
  tic2 := 0xFFEC
  tic3 := 0xFFEA
  toc1 := 0xFFE8
  toc2 := 0xFFE6
  toc3 := 0xFFE4
  toc4 := 0xFFE2
  toc5 := 0xFFE0
  tof := 0xFFDE
  paov := 0xFFDC
  paie := 0xFFDA
  spi := 0xFFD8
  sci := 0xFFD6

/-- The default priority, ranks 1 to 21 (60_exceptions.md R420, R426). ILLOP and SWI, ranks 5 and 6, are never pending
(R423(d)), and so their ranks have no effect (R426(e)). -/
def defaultPriority : List Source :=
  [.reset .reset, .reset .clockMonitor, .reset .cop, .interrupt .xirq, .illop, .swi, .interrupt .irq, .interrupt .rtii,
    .interrupt .tic1, .interrupt .tic2, .interrupt .tic3, .interrupt .toc1, .interrupt .toc2, .interrupt .toc3,
    .interrupt .toc4, .interrupt .toc5, .interrupt .tof, .interrupt .paov, .interrupt .paie, .interrupt .spi,
    .interrupt .sci]

/-- The parameters at reset: the defaults of 00_scope.md R6. -/
def defaultParams : Params where
  vectors := defaultVectors
  priority := defaultPriority
  illegalOpcode := .fault
  testMode := false
  daaDomain := .total
  regions := []

/-- The address of a source's vector (60_exceptions.md R420). -/
def vectorAddress (v : VectorTable) : Source → Word
  | .reset .reset => v.reset
  | .reset .clockMonitor => v.clockMonitor
  | .reset .cop => v.cop
  | .interrupt .xirq => v.xirq
  | .interrupt .irq => v.irq
  | .interrupt .rtii => v.rtii
  | .interrupt .tic1 => v.tic1
  | .interrupt .tic2 => v.tic2
  | .interrupt .tic3 => v.tic3
  | .interrupt .toc1 => v.toc1
  | .interrupt .toc2 => v.toc2
  | .interrupt .toc3 => v.toc3
  | .interrupt .toc4 => v.toc4
  | .interrupt .toc5 => v.toc5
  | .interrupt .tof => v.tof
  | .interrupt .paov => v.paov
  | .interrupt .paie => v.paie
  | .interrupt .spi => v.spi
  | .interrupt .sci => v.sci
  | .illop => v.illop
  | .swi => v.swi

/-- The address lies in the region. -/
def regionHolds (r : Region) (a : Nat) : Bool := decide (r.base ≤ a) && decide (a < r.base + r.size)

/-- What the platform holds at an address: the first region that holds it decides, and RAM stands where no region is
(20_memory.md R71). -/
def kindAt : List Region → Nat → RegionKind
  | [], _ => .ram
  | r :: rest, a => bif regionHolds r a then r.kind else kindAt rest a

end Sys2Proof.Machine
end

