-- ==== Sys2Proof/Machine/State.lean ====
section
/-! DEFINITION. The machine's state: everything 10_state.md names, the environment's standing requests and script
(60_exceptions.md R425), the state of the devices (20_memory.md R71), the constant parameters (00_scope.md R6), and the model's own counter of free values. -/

namespace Sys2Proof.Machine

open Sys2Proof.Config

/-- The condition code register, bit 7 first (10_state.md R28 to R36). All eight bits are named; none is reserved. -/
structure CCR where
  s : Bool
  x : Bool
  h : Bool
  i : Bool
  n : Bool
  z : Bool
  v : Bool
  c : Bool
deriving DecidableEq, Repr

/-- The run state (10_state.md R52). `testing` is the endless TEST of the test modes (48_ccr_system.md R414). -/
inductive RunState
  | running
  | waiting
  | stopped
  | testing
deriving DecidableEq, Repr

/-- Why a step has no next state although the spec describes the machine: the model faults of 00_scope.md R16. -/
inductive Fault
  /-- Raised by any read of a byte that holds no value, or of an address where the platform has nothing (10_state.md R57,
  20_memory.md R84). Safe: the hardware goes on with some byte. -/
  | unwrittenRead (address : Word)
  /-- Raised by the decoding of an unlisted opcode under the policy `fault`: where it starts and the bytes read
  (30_encoding.md R118). Safe: the hardware takes a trap, which the policy `trap` models. -/
  | illegalOpcode (pc0 : Word) (bytes : List Byte)
deriving DecidableEq, Repr

/-- Why the model declines a step. -/
inductive Refusal
  /-- An instruction without a meaning, by its mnemonic. No arm of this model answers it. Safe. -/
  | notModelled (mnemonic : String)
  /-- Raised by TEST when the parameter TestMode is false (48_ccr_system.md R414). Safe. -/
  | testOutsideTestModes
  /-- Raised by DAA when DaaDomain is refuse, on a state that no BCD addition produces (42_arithmetic.md R287). Safe. -/
  | daaOutsideDomain
deriving DecidableEq, Repr

/-- The state. -/
structure State where
  /-- Accumulator A (10_state.md R21). -/
  a : Byte
  /-- Accumulator B (R22). -/
  b : Byte
  /-- Index register X (R24). -/
  ix : Word
  /-- Index register Y (R25). -/
  iy : Word
  /-- Stack pointer: the address of the next free byte (R26). -/
  sp : Word
  /-- Program counter (R27). -/
  pc : Word
  /-- Condition code register (R28). -/
  ccr : CCR
  /-- Run state (R52). -/
  runState : RunState
  /-- The hidden bit IDelay (R54). -/
  iDelay : Bool
  /-- The bytes that hold a value (20_memory.md R70). -/
  mem : Memory
  /-- The state of the platform's devices: what they have seen of the machine, the latest first (20_memory.md R71). -/
  deviceLog : List DeviceEvent
  /-- The environment's standing requests: the set `P` of pending sources (R53, 60_exceptions.md R424, R425). -/
  pending : List Source
  /-- What the environment presents at the coming step boundaries (60_exceptions.md R425). -/
  inputs : List EnvInput
  /-- The model's own: how many free values have been drawn (00_scope.md R16). -/
  draws : Nat
  /-- The constant parameters (00_scope.md R6). No step writes them. -/
  params : Params
deriving DecidableEq, Repr

/-- The machine right after reset. S, X, I, the run state and IDelay are 10_state.md R56's; every other register holds the
value that log 1 and log 2 name (DESIGN CHOICE). -/
def State.reset : State where
  a := 0
  b := 0
  ix := 0
  iy := 0
  sp := 0x01FF
  pc := 0xC000
  ccr := { s := true, x := true, h := false, i := true, n := false, z := false, v := false, c := false }
  runState := .running
  iDelay := false
  mem := []
  deviceLog := []
  pending := []
  inputs := []
  draws := 0
  params := defaultParams

end Sys2Proof.Machine
end

