-- ==== Sys2Proof/Machine/Flags.lean ====
section
/-! DEFINITION. The condition code register as a byte and the flag functions of 10_state.md section 3. Each operation
gives its result together with the new register; a flag that a rule does not name keeps its value. -/

namespace Sys2Proof.Machine

/-- `S:X:H:I:N:Z:V:C`, bit 7 to bit 0 (10_state.md R28). -/
def CCR.toByte (f : CCR) : Byte :=
  BitVec.ofNat 8 (128 * f.s.toNat + 64 * f.x.toNat + 32 * f.h.toNat + 16 * f.i.toNat + 8 * f.n.toNat +
    4 * f.z.toNat + 2 * f.v.toNat + f.c.toNat)

/-- `SETCCR(v)`: every bit from the byte, but X may fall and never rise (10_state.md R47). -/
def CCR.load (f : CCR) (v : Byte) : CCR where
  s := v.getLsbD 7
  x := f.x && v.getLsbD 6
  h := v.getLsbD 5
  i := v.getLsbD 4
  n := v.getLsbD 3
  z := v.getLsbD 2
  v := v.getLsbD 1
  c := v.getLsbD 0

/-- `NZ8(r)` (10_state.md R37). -/
def nz8 (r : Byte) (f : CCR) : CCR := { f with n := r.msb, z := r == 0 }

/-- `NZ16(r)` (10_state.md R38). -/
def nz16 (r : Word) (f : CCR) : CCR := { f with n := r.msb, z := r == 0 }

/-- `ADD8(a, m, c)` (10_state.md R39). -/
def add8 (a m : Byte) (c : Bool) (f : CCR) : Byte × CCR :=
  let r := a + m + bitByte c
  (r, { nz8 r f with
        h := a.getLsbD 3 && m.getLsbD 3 || m.getLsbD 3 && !r.getLsbD 3 || !r.getLsbD 3 && a.getLsbD 3
        v := a.msb && m.msb && !r.msb || !a.msb && !m.msb && r.msb
        c := decide (255 < a.toNat + m.toNat + c.toNat) })

/-- `SUB8(a, m, c)`: C is the borrow, H is not written (10_state.md R40). -/
def sub8 (a m : Byte) (c : Bool) (f : CCR) : Byte × CCR :=
  let r := a - m - bitByte c
  (r, { nz8 r f with
        v := a.msb && !m.msb && !r.msb || !a.msb && m.msb && r.msb
        c := decide (a.toNat < m.toNat + c.toNat) })

/-- `ADD16(a, m)` (10_state.md R41). -/
def add16 (a m : Word) (f : CCR) : Word × CCR :=
  let r := a + m
  (r, { nz16 r f with
        v := a.msb && m.msb && !r.msb || !a.msb && !m.msb && r.msb
        c := decide (65535 < a.toNat + m.toNat) })

/-- `SUB16(a, m)` (10_state.md R42). -/
def sub16 (a m : Word) (f : CCR) : Word × CCR :=
  let r := a - m
  (r, { nz16 r f with
        v := a.msb && !m.msb && !r.msb || !a.msb && m.msb && r.msb
        c := decide (a.toNat < m.toNat) })

/-- `LOGIC8(r)` (10_state.md R43). -/
def logic8 (r : Byte) (f : CCR) : CCR := { nz8 r f with v := false }

/-- `LOGIC16(r)` (10_state.md R43). -/
def logic16 (r : Word) (f : CCR) : CCR := { nz16 r f with v := false }

/-- `SHIFTFLAGS8(r, cout)`: V is N xor C, both new (10_state.md R44). -/
def shiftFlags8 (r : Byte) (cout : Bool) (f : CCR) : CCR := { nz8 r f with v := r.msb ^^ cout, c := cout }

/-- `SHIFTFLAGS16(r, cout)` (10_state.md R44). -/
def shiftFlags16 (r : Word) (cout : Bool) (f : CCR) : CCR := { nz16 r f with v := r.msb ^^ cout, c := cout }

/-- `INC8(v)` (10_state.md R45). -/
def inc8 (x : Byte) (f : CCR) : Byte × CCR :=
  let r := x + 1
  (r, { nz8 r f with v := x == 0x7F })

/-- `DEC8(v)` (10_state.md R45). -/
def dec8 (x : Byte) (f : CCR) : Byte × CCR :=
  let r := x - 1
  (r, { nz8 r f with v := x == 0x80 })

/-- `NEG8(v)` (10_state.md R46). -/
def neg8 (x : Byte) (f : CCR) : Byte × CCR :=
  let r := -x
  (r, { nz8 r f with v := r == 0x80, c := r != 0 })

/-- `COM8(v)` (10_state.md R46). -/
def com8 (x : Byte) (f : CCR) : Byte × CCR :=
  let r := ~~~x
  (r, { nz8 r f with v := false, c := true })

/-- The fixed pattern of CLR, CLRA and CLRB (40_load_store_transfer.md R221). -/
def clr8 (_ : Byte) (f : CCR) : Byte × CCR := (0, { f with n := false, z := true, v := false, c := false })

/-- The flags of TST, TSTA and TSTB (42_arithmetic.md R284). -/
def tst8 (x : Byte) (f : CCR) : CCR := { nz8 x f with v := false, c := false }

/-- `ASL8` with its flags (45_shift_rotate.md R330). -/
def asl8 (x : Byte) (f : CCR) : Byte × CCR :=
  let r := x <<< 1
  (r, shiftFlags8 r x.msb f)

/-- `ASR8` with its flags (45_shift_rotate.md R330). -/
def asr8 (x : Byte) (f : CCR) : Byte × CCR :=
  let r := x.sshiftRight 1
  (r, shiftFlags8 r (x.getLsbD 0) f)

/-- `LSR8` with its flags (45_shift_rotate.md R330). -/
def lsr8 (x : Byte) (f : CCR) : Byte × CCR :=
  let r := x >>> 1
  (r, shiftFlags8 r (x.getLsbD 0) f)

/-- `ROL8` with its flags: the old C enters bit 0 (45_shift_rotate.md R330). -/
def rol8 (x : Byte) (f : CCR) : Byte × CCR :=
  let r := x <<< 1 ||| bitByte f.c
  (r, shiftFlags8 r x.msb f)

/-- `ROR8` with its flags: the old C enters bit 7 (45_shift_rotate.md R330). -/
def ror8 (x : Byte) (f : CCR) : Byte × CCR :=
  let r := x >>> 1 ||| bitByte f.c <<< 7
  (r, shiftFlags8 r (x.getLsbD 0) f)

/-- `ASL16` with its flags (45_shift_rotate.md R330). -/
def asl16 (x : Word) (f : CCR) : Word × CCR :=
  let r := x <<< 1
  (r, shiftFlags16 r x.msb f)

/-- `LSR16` with its flags (45_shift_rotate.md R330). -/
def lsr16 (x : Word) (f : CCR) : Word × CCR :=
  let r := x >>> 1
  (r, shiftFlags16 r (x.getLsbD 0) f)

/-- INX, INY, DEX and DEY write Z alone, from the new index (42_arithmetic.md R280 to R283). -/
def indexFlags (r : Word) (f : CCR) : CCR := { f with z := r == 0 }

/-- DAA's low correction: the low digit is above 9, or H is set (42_arithmetic.md R287). -/
def daaLow (x : Byte) (f : CCR) : Bool := decide (9 < x.toNat % 16) || f.h

/-- DAA's high correction: the byte is above $99, or C is set (42_arithmetic.md R287). -/
def daaHigh (x : Byte) (f : CCR) : Bool := decide (0x99 < x.toNat) || f.c

/-- DAA: the adjusted byte and the flags. C is set or kept, never cleared; V is the free bit given (42_arithmetic.md R287,
93_implementation_defined.md U1). -/
def daa8 (x : Byte) (freeV : Bool) (f : CCR) : Byte × CCR :=
  let r := x + (bif daaLow x f then 0x06 else 0) + (bif daaHigh x f then 0x60 else 0)
  (r, { nz8 r f with v := freeV, c := daaHigh x f })

/-- The states that the addition of two packed-BCD bytes and a carry leaves (42_arithmetic.md R287,
93_implementation_defined.md U4), by the digits `lo` and `hi` of A. A carry out of the low digit leaves at most 3 there and
adds one to the high digit, so that the high digit is then at least 1 when no carry left it; a carry out of the high digit
leaves at most 2 there, or 3 when the low digit carried into it. DEDUCED, log 11. -/
def daaInDomain (x : Byte) (f : CCR) : Bool :=
  let lo := x.toNat % 16
  let hi := x.toNat / 16
  (!f.h || decide (lo ≤ 3)) && (!f.h || f.c || decide (1 ≤ hi)) && (!f.c || decide (hi ≤ 2 + f.h.toNat))

/-- The quotient and remainder of IDIV, for a divisor that is not 0 (43_multiply_divide.md R302). -/
def idivResult (n d : Word) : Word × Word := (n / d, n % d)

/-- The quotient and remainder of FDIV, for a dividend below the divisor (43_multiply_divide.md R303). -/
def fdivResult (n d : Word) : Word × Word :=
  (BitVec.ofNat 16 (n.toNat * 65536 / d.toNat), BitVec.ofNat 16 (n.toNat * 65536 % d.toNat))

/-- The product of MUL (43_multiply_divide.md R301). -/
def mulResult (x y : Byte) : Word := zext x * zext y

end Sys2Proof.Machine
end

