-- ==== Sys2Proof/Machine/Ops.lean ====
section
/-! DEFINITION. The named operations over registers, memory and the stack, the free values, taking an exception and
returning from one, and the reset. An operation that can stop answers `Except Stop`; `finish` turns that into the outcome
of a step. -/

namespace Sys2Proof.Machine

open Sys2Proof.Config

/-- A stop inside an operation: a model fault or a refusal (00_scope.md R16). -/
inductive Stop
  | fault (f : Fault)
  | refuse (r : Refusal)
deriving DecidableEq, Repr

/-- The outcome of a step from the result of its operations. -/
def finish : Except Stop State → Host.Outcome State Fault Refusal
  | .ok s => .next s
  | .error (.fault f) => .fault f
  | .error (.refuse r) => .refused r

/-! ### Registers -/

def State.setA (s : State) (v : Byte) : State := { s with a := v }
def State.setB (s : State) (v : Byte) : State := { s with b := v }
def State.setIx (s : State) (v : Word) : State := { s with ix := v }
def State.setIy (s : State) (v : Word) : State := { s with iy := v }
def State.setSp (s : State) (v : Word) : State := { s with sp := v }
def State.setPc (s : State) (v : Word) : State := { s with pc := v }
def State.setCcr (s : State) (v : CCR) : State := { s with ccr := v }
def State.setRunState (s : State) (v : RunState) : State := { s with runState := v }
def State.setIDelay (s : State) (v : Bool) : State := { s with iDelay := v }
def State.setMem (s : State) (v : Memory) : State := { s with mem := v }
def State.setDeviceLog (s : State) (v : List DeviceEvent) : State := { s with deviceLog := v }
def State.setPending (s : State) (v : List Source) : State := { s with pending := v }
def State.setInputs (s : State) (v : List EnvInput) : State := { s with inputs := v }
def State.setDraws (s : State) (v : Nat) : State := { s with draws := v }

/-- Reading D gives A:B (10_state.md R23). -/
def State.d (s : State) : Word := joinBytes s.a s.b

/-- Writing D writes A and B (10_state.md R23). -/
def State.setD (s : State) (v : Word) : State := (s.setA (hiByte v)).setB (loByte v)

/-! ### Memory -/

/-- What the platform holds at an address (20_memory.md R71). -/
def State.kind (s : State) (addr : Word) : RegionKind := kindAt s.params.regions addr.toNat

/-- A device of the platform sees an event. -/
def State.noteDevice (s : State) (e : DeviceEvent) : State := s.setDeviceLog (e :: s.deviceLog)

/-- `MemRead(addr, 1)`, its byte: `Platform.read(addr)` (20_memory.md R71, R73). A device answers by its own rule; a byte
that holds no value, and an address where the platform has nothing, fault (10_state.md R57, 20_memory.md R84). -/
def State.read8 (s : State) (addr : Word) : Except Stop Byte :=
  match s.kind addr with
  | .device => .ok (deviceByte s.deviceLog addr)
  | .absent => .error (.fault (.unwrittenRead addr))
  | .ram | .rom =>
      match Memory.read s.mem addr.toNat with
      | some v => .ok v
      | none => .error (.fault (.unwrittenRead addr))

/-- What the devices have seen after a read of the address. -/
def State.logAfterRead (s : State) (addr : Word) : List DeviceEvent :=
  match s.kind addr with
  | .device => .read addr :: s.deviceLog
  | .absent | .rom | .ram => s.deviceLog

/-- `MemRead(addr, 1)`, the state it leaves: a device may change its state on a read (20_memory.md R71, R91). -/
def State.afterRead (s : State) (addr : Word) : State := s.setDeviceLog (s.logAfterRead addr)

/-- `MemWrite(addr, 1, v)`: `Platform.write(addr, v)` (20_memory.md R71, R74). A device takes the byte by its own rule; a
write to ROM or to nothing is ignored (R71, R84). -/
def State.write8 (s : State) (addr : Word) (v : Byte) : Except Stop State :=
  match s.kind addr with
  | .device => .ok (s.noteDevice (.write addr v))
  | .absent | .rom => .ok s
  | .ram => .ok (s.setMem (Memory.write s.mem addr.toNat v))

/-- A read whose byte is thrown away: CLR's, which reaches devices and does not raise the unwritten-read fault
(20_memory.md R88, 40_load_store_transfer.md R221). -/
def State.discardRead8 (s : State) (addr : Word) : Except Stop State := .ok (s.afterRead addr)

/-- The state that reading so many bytes leaves, one after the other from an address up (20_memory.md R91). -/
def State.afterReads (s : State) (addr : Word) : Nat → State
  | 0 => s
  | n + 1 => (s.afterReads addr n).afterRead (addr + BitVec.ofNat 16 n)

/-- The byte at offset `k` of bytes read one after the other from an address up. -/
def State.readNth (s : State) (addr : Word) (k : Nat) : Except Stop Byte :=
  (s.afterReads addr k).read8 (addr + BitVec.ofNat 16 k)

/-- `MemRead(addr, 2)`, its word: high byte first, from the lower address (20_memory.md R73). -/
def State.read16 (s : State) (addr : Word) : Except Stop Word := do
  let h ← s.read8 addr
  let l ← (s.afterRead addr).read8 (addr + 1)
  .ok (joinBytes h l)

/-- `MemRead(addr, 2)`, the state it leaves. -/
def State.afterRead16 (s : State) (addr : Word) : State := (s.afterRead addr).afterRead (addr + 1)

/-- `MemWrite(addr, 2, v)`: high byte first, to the lower address (20_memory.md R74). -/
def State.write16 (s : State) (addr : Word) (v : Word) : Except Stop State := do
  let t ← s.write8 addr (hiByte v)
  t.write8 (addr + 1) (loByte v)

/-! ### The stack (20_memory.md R77 to R79) -/

/-- `Push8(v)`: store, then decrement SP (20_memory.md R78). -/
def State.push8 (s : State) (v : Byte) : Except Stop State := do
  let t ← s.write8 s.sp v
  .ok (t.setSp (s.sp - 1))

/-- `Pull8()`: increment SP, then load (20_memory.md R78). -/
def State.pull8 (s : State) : Except Stop (Byte × State) := do
  let v ← s.read8 (s.sp + 1)
  .ok (v, (s.afterRead (s.sp + 1)).setSp (s.sp + 1))

/-- `Push16(v)`: low byte first (20_memory.md R79). -/
def State.push16 (s : State) (v : Word) : Except Stop State := do
  let t ← s.push8 (loByte v)
  t.push8 (hiByte v)

/-- `Pull16()`: high byte first (20_memory.md R79). -/
def State.pull16 (s : State) : Except Stop (Word × State) := do
  let h ← s.pull8
  let l ← h.2.pull8
  .ok (joinBytes h.1 l.1, l.2)

/-! ### Free values (00_scope.md R16) -/

/-- A free bit, fresh at each draw (93_implementation_defined.md U1). -/
def State.drawnBit (s : State) : Bool := freeBit s.draws

/-- A free word, fresh at each draw (93_implementation_defined.md U2, U3). -/
def State.drawnWord (s : State) : Word := freeWord s.draws

/-- Count one draw, so that the next one is another value. -/
def State.afterDraw (s : State) : State := s.setDraws (s.draws + 1)

/-! ### Taking an exception and returning from one -/

/-- Step (a) of the entry: stack the nine register bytes, with the CCR as it is (60_exceptions.md R430). -/
def State.pushFrame (s : State) : Except Stop State := do
  let t ← s.push16 s.pc
  let t ← t.push16 s.iy
  let t ← t.push16 s.ix
  let t ← t.push8 s.a
  let t ← t.push8 s.b
  t.push8 s.ccr.toByte

/-- Step (b): set I, and X for XIRQ alone (60_exceptions.md R430, R431). -/
def maskFor (src : Source) (f : CCR) : CCR :=
  { f with i := true, x := f.x || decide (src = .interrupt .xirq) }

/-- Steps (b) and (c): mask, load PC from the vector, clear IDelay, run (60_exceptions.md R430, R436). -/
def State.enterHandler (s : State) (src : Source) : Except Stop State := do
  let handler ← s.read16 (vectorAddress s.params.vectors src)
  let t := s.afterRead16 (vectorAddress s.params.vectors src)
  .ok ((((t.setCcr (maskFor src t.ccr)).setPc handler).setIDelay false).setRunState .running)

/-- `Interrupt(source)`: the one entry that SWI, the illegal opcode trap and every interrupt take (60_exceptions.md R430).
The PC is the return address. -/
def State.takeException (s : State) (src : Source) : Except Stop State := do
  let t ← s.pushFrame
  t.enterHandler src

/-- The return from an exception: pull CCR, B, A, IX, IY and PC (60_exceptions.md R432, 48_ccr_system.md R411). X falls but
never rises. -/
def State.returnFromInterrupt (s : State) : Except Stop State := do
  let f ← s.pull8
  let rb ← f.2.pull8
  let ra ← rb.2.pull8
  let rx ← ra.2.pull16
  let ry ← rx.2.pull16
  let rp ← ry.2.pull16
  .ok ((((((rp.2.setCcr (s.ccr.load f.1)).setB rb.1).setA ra.1).setIx rx.1).setIy ry.1).setPc rp.1)

/-! ### Reset -/

/-- The flags after a reset inside a run: S, X and I are 1, the others are free (70_reset_and_hazards.md R470). -/
def resetFlags (k : Nat) : CCR where
  s := true
  x := true
  h := freeBit k
  i := true
  n := freeBit (k + 1)
  z := freeBit (k + 2)
  v := freeBit (k + 3)
  c := freeBit (k + 4)

/-- How many free values a reset draws. -/
def resetDraws : Nat := 10

/-- The reset step (70_reset_and_hazards.md R470). The registers that R470 leaves without a value are free values
(10_state.md R57's second way), log 3. Nothing is stacked and memory is kept. The devices see the reset (R471) before the
vector is read: the spec gives no order of the two. DESIGN CHOICE, log 26. -/
def State.resetStep (s : State) (r : ResetSource) : Except Stop State := do
  let t := s.noteDevice (.reset r)
  let start ← t.read16 (vectorAddress s.params.vectors (.reset r))
  .ok { t.afterRead16 (vectorAddress s.params.vectors (.reset r)) with
        a := freeByte s.draws
        b := freeByte (s.draws + 1)
        ix := freeWord (s.draws + 2)
        iy := freeWord (s.draws + 3)
        sp := freeWord (s.draws + 4)
        pc := start
        ccr := resetFlags (s.draws + 5)
        runState := .running
        iDelay := false
        draws := s.draws + resetDraws }

/-! ### Which request is served -/

/-- The request is not masked (60_exceptions.md R424): XIRQ by X, every other source by I, and by IDelay for one
instruction after I was cleared (10_state.md R54). -/
def State.unmasked (s : State) : IntSource → Bool
  | .xirq => !s.ccr.x
  | .irq | .rtii | .tic1 | .tic2 | .tic3 | .toc1 | .toc2 | .toc3 | .toc4 | .toc5 | .tof | .paov | .paie | .spi | .sci =>
      !s.ccr.i && !s.iDelay

/-- The first interrupt source in the platform's order that is pending and can be served (60_exceptions.md R424, R426). The
reset-class sources act before any of them (00_scope.md R15); ILLOP and SWI are never pending (R423(d)). -/
def State.firstInterrupt (s : State) (can : IntSource → Bool) : Option IntSource :=
  s.params.priority.findSome? fun
    | .interrupt i => bif decide (.interrupt i ∈ s.pending) && can i then some i else none
    | .reset _ | .illop | .swi => none

/-- The request that is taken: the first in the platform's order that is pending and not masked (60_exceptions.md R424,
R426). -/
def State.chosen (s : State) : Option IntSource := s.firstInterrupt s.unmasked

/-- The requests that end STOP by an entry: XIRQ with X = 0 and IRQ with I = 0 (60_exceptions.md R437(b), (d)). -/
def State.endsStop (s : State) : IntSource → Bool
  | .xirq => !s.ccr.x
  | .irq => !s.ccr.i
  | .rtii | .tic1 | .tic2 | .tic3 | .toc1 | .toc2 | .toc3 | .toc4 | .toc5 | .tof | .paov | .paie | .spi | .sci => false

/-- The request whose entry ends STOP, if one can (60_exceptions.md R437(b), (d)). -/
def State.chosenInStop (s : State) : Option IntSource := s.firstInterrupt s.endsStop

/-- A masked XIRQ ends STOP without an entry (60_exceptions.md R437(c)). -/
def State.resumesFromStop (s : State) : Bool :=
  decide (.interrupt .xirq ∈ s.params.priority) && decide (.interrupt .xirq ∈ s.pending) && s.ccr.x

end Sys2Proof.Machine
end

