-- ==== Sys2Proof/Machine/Operands.lean ====
section
/-! DEFINITION. The operand forms of 30_encoding.md section 2, and the shapes of instruction that the families share: an
operation on a register and an operand, on a register alone, on a memory byte, a load, a store, a branch. -/

namespace Sys2Proof.Machine

/-! ### Effective addresses and operands -/

/-- The effective address M (30_encoding.md R106 to R109): offsets are unsigned and the sum wraps. -/
def State.ea (s : State) : Addr → Word
  | .dir dd => joinBytes 0 dd
  | .ext hl => hl
  | .indX ff => s.ix + zext ff
  | .indY ff => s.iy + zext ff

/-- `Opnd8()` (30_encoding.md R126). -/
def State.opnd8 (s : State) : Src8 → Except Stop Byte
  | .imm ii => .ok ii
  | .mem m => s.read8 (s.ea m)

/-- `Opnd16()` (30_encoding.md R126). -/
def State.opnd16 (s : State) : Src16 → Except Stop Word
  | .imm jk => .ok jk
  | .mem m => s.read16 (s.ea m)

/-- The state that taking an 8-bit operand leaves: an immediate byte has been read with the instruction. -/
def State.afterOpnd8 (s : State) : Src8 → State
  | .imm _ => s
  | .mem m => s.afterRead (s.ea m)

/-- The state that taking a 16-bit operand leaves. -/
def State.afterOpnd16 (s : State) : Src16 → State
  | .imm _ => s
  | .mem m => s.afterRead16 (s.ea m)

/-- The target of a relative branch, from the address after its last byte (30_encoding.md R110). -/
def State.relTarget (s : State) (rr : Byte) : Word := s.pc + sext rr

/-! ### The registers that instructions share a shape over -/

/-- The accumulator a mnemonic names (30_encoding.md R112). -/
inductive Acc
  | a
  | b
deriving DecidableEq, Repr

def State.acc (s : State) : Acc → Byte
  | .a => s.a
  | .b => s.b

def State.setAcc (s : State) (r : Acc) (v : Byte) : State :=
  match r with
  | .a => s.setA v
  | .b => s.setB v

/-- The 16-bit register a mnemonic names. -/
inductive Reg16
  | d
  | ix
  | iy
  | sp
deriving DecidableEq, Repr

def State.reg16 (s : State) : Reg16 → Word
  | .d => s.d
  | .ix => s.ix
  | .iy => s.iy
  | .sp => s.sp

def State.setReg16 (s : State) (r : Reg16) (v : Word) : State :=
  match r with
  | .d => s.setD v
  | .ix => s.setIx v
  | .iy => s.setIy v
  | .sp => s.setSp v

/-! ### Shapes -/

/-- An 8-bit operation on an accumulator and an operand; the result goes to the accumulator. -/
def State.accOp (s : State) (r : Acc) (op : Byte → Byte → CCR → Byte × CCR) (src : Src8) : Except Stop State := do
  let m ← s.opnd8 src
  let s := s.afterOpnd8 src
  .ok ((s.setAcc r (op (s.acc r) m s.ccr).1).setCcr (op (s.acc r) m s.ccr).2)

/-- The same with the result thrown away: the flags alone. -/
def State.accTest (s : State) (r : Acc) (op : Byte → Byte → CCR → CCR) (src : Src8) : Except Stop State := do
  let m ← s.opnd8 src
  let s := s.afterOpnd8 src
  .ok (s.setCcr (op (s.acc r) m s.ccr))

/-- An operation on an accumulator alone. -/
def State.accUnary (s : State) (r : Acc) (op : Byte → CCR → Byte × CCR) : State :=
  (s.setAcc r (op (s.acc r) s.ccr).1).setCcr (op (s.acc r) s.ccr).2

/-- A read-modify-write of the byte at M: one read, one write, then the flags (20_memory.md R87, R88). -/
def State.memUnary (s : State) (op : Byte → CCR → Byte × CCR) (m : Addr) : Except Stop State := do
  let v ← s.read8 (s.ea m)
  let t ← (s.afterRead (s.ea m)).write8 (s.ea m) (op v s.ccr).1
  .ok (t.setCcr (op v s.ccr).2)

/-- A 16-bit operation on a register and an operand; the result goes to the register. -/
def State.regOp (s : State) (r : Reg16) (op : Word → Word → CCR → Word × CCR) (src : Src16) : Except Stop State := do
  let m ← s.opnd16 src
  let s := s.afterOpnd16 src
  .ok ((s.setReg16 r (op (s.reg16 r) m s.ccr).1).setCcr (op (s.reg16 r) m s.ccr).2)

/-- The same with the result thrown away: the flags alone. -/
def State.regTest (s : State) (r : Reg16) (op : Word → Word → CCR → CCR) (src : Src16) : Except Stop State := do
  let m ← s.opnd16 src
  let s := s.afterOpnd16 src
  .ok (s.setCcr (op (s.reg16 r) m s.ccr))

/-- A 16-bit operation on D alone. -/
def State.dUnary (s : State) (op : Word → CCR → Word × CCR) : State :=
  (s.setD (op s.d s.ccr).1).setCcr (op s.d s.ccr).2

/-- A load of an accumulator (40_load_store_transfer.md R200). -/
def State.loadAcc (s : State) (r : Acc) (src : Src8) : Except Stop State := do
  let m ← s.opnd8 src
  let s := s.afterOpnd8 src
  .ok ((s.setAcc r m).setCcr (logic8 m s.ccr))

/-- A load of a 16-bit register (40_load_store_transfer.md R200). -/
def State.loadReg (s : State) (r : Reg16) (src : Src16) : Except Stop State := do
  let v ← s.opnd16 src
  let s := s.afterOpnd16 src
  .ok ((s.setReg16 r v).setCcr (logic16 v s.ccr))

/-- A store of an accumulator (40_load_store_transfer.md R200). -/
def State.storeAcc (s : State) (r : Acc) (m : Addr) : Except Stop State := do
  let t ← s.write8 (s.ea m) (s.acc r)
  .ok (t.setCcr (logic8 (s.acc r) s.ccr))

/-- A store of a 16-bit register (40_load_store_transfer.md R200). -/
def State.storeReg (s : State) (r : Reg16) (m : Addr) : Except Stop State := do
  let t ← s.write16 (s.ea m) (s.reg16 r)
  .ok (t.setCcr (logic16 (s.reg16 r) s.ccr))

/-- Add to an index register and write Z from the sum (42_arithmetic.md R280 to R283). -/
def State.stepIndex (s : State) (r : Reg16) (delta : Word) : State :=
  (s.setReg16 r (s.reg16 r + delta)).setCcr (indexFlags (s.reg16 r + delta) s.ccr)

/-- Exchange D with an index register; no flag changes (40_load_store_transfer.md R219, R220). -/
def State.exchangeD (s : State) (r : Reg16) : State := (s.setReg16 r s.d).setD (s.reg16 r)

/-- Push the return address and go to `target` (47_jump_subroutine.md R392, R393). -/
def State.callTo (s : State) (target : Word) : Except Stop State := do
  let t ← s.push16 s.pc
  .ok (t.setPc target)

/-- A branch: PC moves when the condition holds, and nothing else ever changes (46_branch.md R360). -/
def State.branchIf (s : State) (cond : Bool) (rr : Byte) : State := bif cond then s.setPc (s.relTarget rr) else s

end Sys2Proof.Machine
end

