-- ==== Sys2Proof/Machine/Arith.lean ====
section
/-! DEFINITION. The meanings of add, subtract, compare, negate, increment, decrement, test and decimal adjust (42_arithmetic.md). In each, PC is already past the instruction
(30_encoding.md R102). -/

namespace Sys2Proof.Machine

/-- ABA: A + B to A (R251). -/
def execAba (s : State) : Host.Outcome State Fault Refusal :=
  .next ((s.setA (add8 s.a s.b false s.ccr).1).setCcr (add8 s.a s.b false s.ccr).2)

/-- ABX: IX + 00:B to IX; no flag changes (R252). -/
def execAbx (s : State) : Host.Outcome State Fault Refusal :=
  .next (s.setIx (s.ix + zext s.b))

/-- ABY: IY + 00:B to IY; no flag changes (R253). -/
def execAby (s : State) : Host.Outcome State Fault Refusal :=
  .next (s.setIy (s.iy + zext s.b))

/-- ADCA: A + M + C to A (R254). -/
def execAdca (src : Src8) (s : State) : Host.Outcome State Fault Refusal :=
  finish (s.accOp .a (fun x m f => add8 x m f.c f) src)

/-- ADCB: B + M + C to B (R255). -/
def execAdcb (src : Src8) (s : State) : Host.Outcome State Fault Refusal :=
  finish (s.accOp .b (fun x m f => add8 x m f.c f) src)

/-- ADDA: A + M to A (R256). -/
def execAdda (src : Src8) (s : State) : Host.Outcome State Fault Refusal :=
  finish (s.accOp .a (fun x m f => add8 x m false f) src)

/-- ADDB: B + M to B (R257). -/
def execAddb (src : Src8) (s : State) : Host.Outcome State Fault Refusal :=
  finish (s.accOp .b (fun x m f => add8 x m false f) src)

/-- ADDD: D + M:M+1 to D; H is kept (R258). -/
def execAddd (src : Src16) (s : State) : Host.Outcome State Fault Refusal :=
  finish (s.regOp .d add16 src)

/-- SBA: A - B to A (R259). -/
def execSba (s : State) : Host.Outcome State Fault Refusal :=
  .next ((s.setA (sub8 s.a s.b false s.ccr).1).setCcr (sub8 s.a s.b false s.ccr).2)

/-- SBCA: A - M - C to A (R260). -/
def execSbca (src : Src8) (s : State) : Host.Outcome State Fault Refusal :=
  finish (s.accOp .a (fun x m f => sub8 x m f.c f) src)

/-- SBCB: B - M - C to B (R261). -/
def execSbcb (src : Src8) (s : State) : Host.Outcome State Fault Refusal :=
  finish (s.accOp .b (fun x m f => sub8 x m f.c f) src)

/-- SUBA: A - M to A (R262). -/
def execSuba (src : Src8) (s : State) : Host.Outcome State Fault Refusal :=
  finish (s.accOp .a (fun x m f => sub8 x m false f) src)

/-- SUBB: B - M to B (R263). -/
def execSubb (src : Src8) (s : State) : Host.Outcome State Fault Refusal :=
  finish (s.accOp .b (fun x m f => sub8 x m false f) src)

/-- SUBD: D - M:M+1 to D (R264). -/
def execSubd (src : Src16) (s : State) : Host.Outcome State Fault Refusal :=
  finish (s.regOp .d sub16 src)

/-- CBA: the flags of A - B (R265). -/
def execCba (s : State) : Host.Outcome State Fault Refusal :=
  .next (s.setCcr (sub8 s.a s.b false s.ccr).2)

/-- CMPA: the flags of A - M (R266). -/
def execCmpa (src : Src8) (s : State) : Host.Outcome State Fault Refusal :=
  finish (s.accTest .a (fun x m f => (sub8 x m false f).2) src)

/-- CMPB: the flags of B - M (R267). -/
def execCmpb (src : Src8) (s : State) : Host.Outcome State Fault Refusal :=
  finish (s.accTest .b (fun x m f => (sub8 x m false f).2) src)

/-- CPD: the flags of D - M:M+1 (R268). -/
def execCpd (src : Src16) (s : State) : Host.Outcome State Fault Refusal :=
  finish (s.regTest .d (fun x m f => (sub16 x m f).2) src)

/-- CPX: the flags of IX - M:M+1 (R269). -/
def execCpx (src : Src16) (s : State) : Host.Outcome State Fault Refusal :=
  finish (s.regTest .ix (fun x m f => (sub16 x m f).2) src)

/-- CPY: the flags of IY - M:M+1 (R270). -/
def execCpy (src : Src16) (s : State) : Host.Outcome State Fault Refusal :=
  finish (s.regTest .iy (fun x m f => (sub16 x m f).2) src)

/-- NEG: 0 - M to M (R271). -/
def execNeg (m : Addr) (s : State) : Host.Outcome State Fault Refusal :=
  finish (s.memUnary neg8 m)

/-- NEGA: 0 - A to A (R272). -/
def execNega (s : State) : Host.Outcome State Fault Refusal :=
  .next (s.accUnary .a neg8)

/-- NEGB: 0 - B to B (R273). -/
def execNegb (s : State) : Host.Outcome State Fault Refusal :=
  .next (s.accUnary .b neg8)

/-- INC: M + 1 to M; C is kept (R274). -/
def execInc (m : Addr) (s : State) : Host.Outcome State Fault Refusal :=
  finish (s.memUnary inc8 m)

/-- INCA: A + 1 to A; C is kept (R275). -/
def execInca (s : State) : Host.Outcome State Fault Refusal :=
  .next (s.accUnary .a inc8)

/-- INCB: B + 1 to B; C is kept (R276). -/
def execIncb (s : State) : Host.Outcome State Fault Refusal :=
  .next (s.accUnary .b inc8)

/-- DEC: M - 1 to M; C is kept (R277). -/
def execDec (m : Addr) (s : State) : Host.Outcome State Fault Refusal :=
  finish (s.memUnary dec8 m)

/-- DECA: A - 1 to A; C is kept (R278). -/
def execDeca (s : State) : Host.Outcome State Fault Refusal :=
  .next (s.accUnary .a dec8)

/-- DECB: B - 1 to B; C is kept (R279). -/
def execDecb (s : State) : Host.Outcome State Fault Refusal :=
  .next (s.accUnary .b dec8)

/-- INX: IX + 1 to IX; Z alone is written (R280). -/
def execInx (s : State) : Host.Outcome State Fault Refusal :=
  .next (s.stepIndex .ix 1)

/-- INY: IY + 1 to IY; Z alone is written (R281). -/
def execIny (s : State) : Host.Outcome State Fault Refusal :=
  .next (s.stepIndex .iy 1)

/-- DEX: IX - 1 to IX, mod 65536; Z alone is written (R282). -/
def execDex (s : State) : Host.Outcome State Fault Refusal :=
  .next (s.stepIndex .ix 0xFFFF)

/-- DEY: IY - 1 to IY, mod 65536; Z alone is written (R283). -/
def execDey (s : State) : Host.Outcome State Fault Refusal :=
  .next (s.stepIndex .iy 0xFFFF)

/-- TST: the flags of M - 0; the byte is not written (R284). -/
def execTst (m : Addr) (s : State) : Host.Outcome State Fault Refusal :=
  finish <| do
    let v ← s.read8 (s.ea m)
    .ok ((s.afterRead (s.ea m)).setCcr (tst8 v s.ccr))

/-- TSTA: the flags of A - 0 (R285). -/
def execTsta (s : State) : Host.Outcome State Fault Refusal :=
  .next (s.setCcr (tst8 (s.acc .a) s.ccr))

/-- TSTB: the flags of B - 0 (R286). -/
def execTstb (s : State) : Host.Outcome State Fault Refusal :=
  .next (s.setCcr (tst8 (s.acc .b) s.ccr))

/-- DAA: decimal adjust A; V is a free bit (93_implementation_defined.md U1). With DaaDomain set to refuse, a state that no BCD
addition produces is refused (U4) (R287). -/
def execDaa (s : State) : Host.Outcome State Fault Refusal :=
  finish <|
    bif s.params.daaDomain == .refuse && !daaInDomain s.a s.ccr then .error (.refuse .daaOutsideDomain)
    else .ok (((s.setA (daa8 s.a s.drawnBit s.ccr).1).setCcr (daa8 s.a s.drawnBit s.ccr).2).afterDraw)

end Sys2Proof.Machine
end

