-- ==== Sys2Proof/Machine/Branch.lean ====
section
/-! DEFINITION. The meanings of the branches (46_branch.md). In each, PC is already past the instruction
(30_encoding.md R102). -/

namespace Sys2Proof.Machine

/-- BCC: branch if C = 0 (R361). -/
def execBcc (rr : Byte) (s : State) : Host.Outcome State Fault Refusal :=
  .next (s.branchIf (!s.ccr.c) rr)

/-- BCS: branch if C = 1 (R362). -/
def execBcs (rr : Byte) (s : State) : Host.Outcome State Fault Refusal :=
  .next (s.branchIf (s.ccr.c) rr)

/-- BEQ: branch if Z = 1 (R363). -/
def execBeq (rr : Byte) (s : State) : Host.Outcome State Fault Refusal :=
  .next (s.branchIf (s.ccr.z) rr)

/-- BGE: branch if N xor V = 0 (R364). -/
def execBge (rr : Byte) (s : State) : Host.Outcome State Fault Refusal :=
  .next (s.branchIf (!(s.ccr.n ^^ s.ccr.v)) rr)

/-- BGT: branch if Z or (N xor V) = 0 (R365). -/
def execBgt (rr : Byte) (s : State) : Host.Outcome State Fault Refusal :=
  .next (s.branchIf (!(s.ccr.z || (s.ccr.n ^^ s.ccr.v))) rr)

/-- BHI: branch if C or Z = 0 (R366). -/
def execBhi (rr : Byte) (s : State) : Host.Outcome State Fault Refusal :=
  .next (s.branchIf (!(s.ccr.c || s.ccr.z)) rr)

/-- BHS: branch if C = 0 (the second name of BCC, 30_encoding.md R122) (R367). -/
def execBhs (rr : Byte) (s : State) : Host.Outcome State Fault Refusal :=
  .next (s.branchIf (!s.ccr.c) rr)

/-- BLE: branch if Z or (N xor V) = 1 (R368). -/
def execBle (rr : Byte) (s : State) : Host.Outcome State Fault Refusal :=
  .next (s.branchIf (s.ccr.z || (s.ccr.n ^^ s.ccr.v)) rr)

/-- BLO: branch if C = 1 (the second name of BCS, 30_encoding.md R122) (R369). -/
def execBlo (rr : Byte) (s : State) : Host.Outcome State Fault Refusal :=
  .next (s.branchIf (s.ccr.c) rr)

/-- BLS: branch if C or Z = 1 (R370). -/
def execBls (rr : Byte) (s : State) : Host.Outcome State Fault Refusal :=
  .next (s.branchIf (s.ccr.c || s.ccr.z) rr)

/-- BLT: branch if N xor V = 1 (R371). -/
def execBlt (rr : Byte) (s : State) : Host.Outcome State Fault Refusal :=
  .next (s.branchIf (s.ccr.n ^^ s.ccr.v) rr)

/-- BMI: branch if N = 1 (R372). -/
def execBmi (rr : Byte) (s : State) : Host.Outcome State Fault Refusal :=
  .next (s.branchIf (s.ccr.n) rr)

/-- BNE: branch if Z = 0 (R373). -/
def execBne (rr : Byte) (s : State) : Host.Outcome State Fault Refusal :=
  .next (s.branchIf (!s.ccr.z) rr)

/-- BPL: branch if N = 0 (R374). -/
def execBpl (rr : Byte) (s : State) : Host.Outcome State Fault Refusal :=
  .next (s.branchIf (!s.ccr.n) rr)

/-- BRA: branch always (R375). -/
def execBra (rr : Byte) (s : State) : Host.Outcome State Fault Refusal :=
  .next (s.branchIf true rr)

/-- BRN: branch never (R376). -/
def execBrn (rr : Byte) (s : State) : Host.Outcome State Fault Refusal :=
  .next (s.branchIf false rr)

/-- BVC: branch if V = 0 (R377). -/
def execBvc (rr : Byte) (s : State) : Host.Outcome State Fault Refusal :=
  .next (s.branchIf (!s.ccr.v) rr)

/-- BVS: branch if V = 1 (R378). -/
def execBvs (rr : Byte) (s : State) : Host.Outcome State Fault Refusal :=
  .next (s.branchIf (s.ccr.v) rr)

/-- BRCLR: branch if every bit of M that mm selects is 0 (R379). -/
def execBrclr (m : Addr) (mm : Byte) (rr : Byte) (s : State) : Host.Outcome State Fault Refusal :=
  finish <| do
    let v ← s.read8 (s.ea m)
    .ok ((s.afterRead (s.ea m)).branchIf (v &&& mm == 0) rr)

/-- BRSET: branch if every bit of M that mm selects is 1 (R380). -/
def execBrset (m : Addr) (mm : Byte) (rr : Byte) (s : State) : Host.Outcome State Fault Refusal :=
  finish <| do
    let v ← s.read8 (s.ea m)
    .ok ((s.afterRead (s.ea m)).branchIf (~~~v &&& mm == 0) rr)

end Sys2Proof.Machine
end

