-- ==== Sys2Proof/Machine/Jump.lean ====
section
/-! DEFINITION. The meanings of jumps and subroutines (47_jump_subroutine.md). In each, PC is already past the instruction
(30_encoding.md R102). -/

namespace Sys2Proof.Machine

/-- JMP: PC takes the effective address itself; no memory is read (R391). -/
def execJmp (m : Addr) (s : State) : Host.Outcome State Fault Refusal :=
  .next (s.setPc (s.ea m))

/-- JSR: push the address of the next instruction, low byte first, and go to M, computed before the pushes (R392). -/
def execJsr (m : Addr) (s : State) : Host.Outcome State Fault Refusal :=
  finish (s.callTo (s.ea m))

/-- BSR: push the address of the next instruction and go to the relative target (R393). -/
def execBsr (rr : Byte) (s : State) : Host.Outcome State Fault Refusal :=
  finish (s.callTo (s.relTarget rr))

/-- RTS: pull PC, high byte first (R394). -/
def execRts (s : State) : Host.Outcome State Fault Refusal :=
  finish <| do
    let v ← s.pull16
    .ok (v.2.setPc v.1)

end Sys2Proof.Machine
end

