-- ==== Sys2Proof/Machine/LoadStore.lean ====
section
/-! DEFINITION. The meanings of loads, stores, transfers, exchanges and clears (40_load_store_transfer.md). In each, PC is already past the instruction
(30_encoding.md R102). -/

namespace Sys2Proof.Machine

/-- LDAA: load accumulator A; N and Z from the value, V cleared (R201). -/
def execLdaa (src : Src8) (s : State) : Host.Outcome State Fault Refusal :=
  finish (s.loadAcc .a src)

/-- LDAB: load accumulator B; N and Z from the value, V cleared (R202). -/
def execLdab (src : Src8) (s : State) : Host.Outcome State Fault Refusal :=
  finish (s.loadAcc .b src)

/-- LDD: load D; N and Z from the 16-bit value, V cleared (R203). -/
def execLdd (src : Src16) (s : State) : Host.Outcome State Fault Refusal :=
  finish (s.loadReg .d src)

/-- LDS: load SP; N and Z from the 16-bit value, V cleared (R204). -/
def execLds (src : Src16) (s : State) : Host.Outcome State Fault Refusal :=
  finish (s.loadReg .sp src)

/-- LDX: load IX; N and Z from the 16-bit value, V cleared (R205). -/
def execLdx (src : Src16) (s : State) : Host.Outcome State Fault Refusal :=
  finish (s.loadReg .ix src)

/-- LDY: load IY; N and Z from the 16-bit value, V cleared (R206). -/
def execLdy (src : Src16) (s : State) : Host.Outcome State Fault Refusal :=
  finish (s.loadReg .iy src)

/-- STAA: store accumulator A; the byte is not read (R207). -/
def execStaa (m : Addr) (s : State) : Host.Outcome State Fault Refusal :=
  finish (s.storeAcc .a m)

/-- STAB: store accumulator B; the byte is not read (R208). -/
def execStab (m : Addr) (s : State) : Host.Outcome State Fault Refusal :=
  finish (s.storeAcc .b m)

/-- STD: store D, high byte at M (R209). -/
def execStd (m : Addr) (s : State) : Host.Outcome State Fault Refusal :=
  finish (s.storeReg .d m)

/-- STS: store SP, high byte at M (R210). -/
def execSts (m : Addr) (s : State) : Host.Outcome State Fault Refusal :=
  finish (s.storeReg .sp m)

/-- STX: store IX, high byte at M (R211). -/
def execStx (m : Addr) (s : State) : Host.Outcome State Fault Refusal :=
  finish (s.storeReg .ix m)

/-- STY: store IY, high byte at M (R212). -/
def execSty (m : Addr) (s : State) : Host.Outcome State Fault Refusal :=
  finish (s.storeReg .iy m)

/-- TAB: A to B; N and Z from the value, V cleared (R213). -/
def execTab (s : State) : Host.Outcome State Fault Refusal :=
  .next ((s.setB s.a).setCcr (logic8 s.a s.ccr))

/-- TBA: B to A; N and Z from the value, V cleared (R214). -/
def execTba (s : State) : Host.Outcome State Fault Refusal :=
  .next ((s.setA s.b).setCcr (logic8 s.b s.ccr))

/-- TSX: SP + 1 to IX; no flag changes (R215). -/
def execTsx (s : State) : Host.Outcome State Fault Refusal :=
  .next (s.setIx (s.sp + 1))

/-- TSY: SP + 1 to IY; no flag changes (R216). -/
def execTsy (s : State) : Host.Outcome State Fault Refusal :=
  .next (s.setIy (s.sp + 1))

/-- TXS: IX - 1 to SP; no flag changes (R217). -/
def execTxs (s : State) : Host.Outcome State Fault Refusal :=
  .next (s.setSp (s.ix - 1))

/-- TYS: IY - 1 to SP; no flag changes (R218). -/
def execTys (s : State) : Host.Outcome State Fault Refusal :=
  .next (s.setSp (s.iy - 1))

/-- XGDX: exchange D with IX; no flag changes (R219). -/
def execXgdx (s : State) : Host.Outcome State Fault Refusal :=
  .next (s.exchangeD .ix)

/-- XGDY: exchange D with IY; no flag changes (R220). -/
def execXgdy (s : State) : Host.Outcome State Fault Refusal :=
  .next (s.exchangeD .iy)

/-- CLR: read M and throw the value away, write $00, and the fixed flag pattern; the read raises no unwritten-read fault (R221). -/
def execClr (m : Addr) (s : State) : Host.Outcome State Fault Refusal :=
  finish <| do
    let t ← s.discardRead8 (s.ea m)
    let t ← t.write8 (s.ea m) (clr8 0 s.ccr).1
    .ok (t.setCcr (clr8 0 s.ccr).2)

/-- CLRA: clear A, and the fixed flag pattern (R222). -/
def execClra (s : State) : Host.Outcome State Fault Refusal :=
  .next (s.accUnary .a clr8)

/-- CLRB: clear B, and the fixed flag pattern (R223). -/
def execClrb (s : State) : Host.Outcome State Fault Refusal :=
  .next (s.accUnary .b clr8)

end Sys2Proof.Machine
end

