-- ==== Sys2Proof/Machine/Logic.lean ====
section
/-! DEFINITION. The meanings of the logic and bit instructions (44_logic_bits.md). In each, PC is already past the instruction
(30_encoding.md R102). -/

namespace Sys2Proof.Machine

/-- ANDA: A and M to A (R311). -/
def execAnda (src : Src8) (s : State) : Host.Outcome State Fault Refusal :=
  finish (s.accOp .a (fun x m f => (x &&& m, logic8 (x &&& m) f)) src)

/-- ANDB: B and M to B (R312). -/
def execAndb (src : Src8) (s : State) : Host.Outcome State Fault Refusal :=
  finish (s.accOp .b (fun x m f => (x &&& m, logic8 (x &&& m) f)) src)

/-- BITA: the flags of A and M (R313). -/
def execBita (src : Src8) (s : State) : Host.Outcome State Fault Refusal :=
  finish (s.accTest .a (fun x m f => logic8 (x &&& m) f) src)

/-- BITB: the flags of B and M (R314). -/
def execBitb (src : Src8) (s : State) : Host.Outcome State Fault Refusal :=
  finish (s.accTest .b (fun x m f => logic8 (x &&& m) f) src)

/-- EORA: A exclusive-or M to A (R315). -/
def execEora (src : Src8) (s : State) : Host.Outcome State Fault Refusal :=
  finish (s.accOp .a (fun x m f => (x ^^^ m, logic8 (x ^^^ m) f)) src)

/-- EORB: B exclusive-or M to B (R316). -/
def execEorb (src : Src8) (s : State) : Host.Outcome State Fault Refusal :=
  finish (s.accOp .b (fun x m f => (x ^^^ m, logic8 (x ^^^ m) f)) src)

/-- ORAA: A inclusive-or M to A (R317). -/
def execOraa (src : Src8) (s : State) : Host.Outcome State Fault Refusal :=
  finish (s.accOp .a (fun x m f => (x ||| m, logic8 (x ||| m) f)) src)

/-- ORAB: B inclusive-or M to B (R318). -/
def execOrab (src : Src8) (s : State) : Host.Outcome State Fault Refusal :=
  finish (s.accOp .b (fun x m f => (x ||| m, logic8 (x ||| m) f)) src)

/-- COM: $FF - M to M; C is set (R319). -/
def execCom (m : Addr) (s : State) : Host.Outcome State Fault Refusal :=
  finish (s.memUnary com8 m)

/-- COMA: $FF - A to A; C is set (R320). -/
def execComa (s : State) : Host.Outcome State Fault Refusal :=
  .next (s.accUnary .a com8)

/-- COMB: $FF - B to B; C is set (R321). -/
def execComb (s : State) : Host.Outcome State Fault Refusal :=
  .next (s.accUnary .b com8)

/-- BCLR: clear the bits of M that mm selects; the byte is always written back (R322). -/
def execBclr (m : Addr) (mm : Byte) (s : State) : Host.Outcome State Fault Refusal :=
  finish (s.memUnary (fun v f => (v &&& ~~~mm, logic8 (v &&& ~~~mm) f)) m)

/-- BSET: set the bits of M that mm selects; the byte is always written back (R323). -/
def execBset (m : Addr) (mm : Byte) (s : State) : Host.Outcome State Fault Refusal :=
  finish (s.memUnary (fun v f => (v ||| mm, logic8 (v ||| mm) f)) m)

end Sys2Proof.Machine
end

