-- ==== Sys2Proof/Machine/MulDiv.lean ====
section
/-! DEFINITION. The meanings of multiply and divide (43_multiply_divide.md). In each, PC is already past the instruction
(30_encoding.md R102). -/

namespace Sys2Proof.Machine

/-- MUL: A times B, unsigned, to D; C is bit 7 of the product and no other flag changes (R301). -/
def execMul (s : State) : Host.Outcome State Fault Refusal :=
  .next ((s.setD (mulResult s.a s.b)).setCcr { s.ccr with c := (mulResult s.a s.b).getLsbD 7 })

/-- IDIV: D / IX, unsigned: the quotient to IX, the remainder to D. A zero divisor gives the quotient $FFFF, sets C, and leaves a
free value in D (93_implementation_defined.md U2) (R302). -/
def execIdiv (s : State) : Host.Outcome State Fault Refusal :=
  .next <|
    bif s.ix == 0 then
      (((s.setIx 0xFFFF).setD s.drawnWord).setCcr { s.ccr with z := false, v := false, c := true }).afterDraw
    else
      ((s.setIx (idivResult s.d s.ix).1).setD (idivResult s.d s.ix).2).setCcr
        { s.ccr with z := (idivResult s.d s.ix).1 == 0, v := false, c := false }

/-- FDIV: D * 65536 / IX, unsigned: the fraction to IX, the remainder to D. When IX is not above D the quotient is $FFFF, V is set,
C says whether IX was zero, and D is left with a free value (93_implementation_defined.md U3) (R303). -/
def execFdiv (s : State) : Host.Outcome State Fault Refusal :=
  .next <|
    bif decide (s.d.toNat < s.ix.toNat) then
      ((s.setIx (fdivResult s.d s.ix).1).setD (fdivResult s.d s.ix).2).setCcr
        { s.ccr with z := (fdivResult s.d s.ix).1 == 0, v := false, c := false }
    else
      (((s.setIx 0xFFFF).setD s.drawnWord).setCcr { s.ccr with z := false, v := true, c := s.ix == 0 }).afterDraw

end Sys2Proof.Machine
end

