-- ==== Sys2Proof/Machine/Shift.lean ====
section
/-! DEFINITION. The meanings of the shifts and rotates (45_shift_rotate.md). In each, PC is already past the instruction
(30_encoding.md R102). -/

namespace Sys2Proof.Machine

/-- ASL: shift the byte at M left through C, 0 enters bit 0 (R331). -/
def execAsl (m : Addr) (s : State) : Host.Outcome State Fault Refusal :=
  finish (s.memUnary asl8 m)

/-- ASLA: shift A left through C, 0 enters bit 0 (R332). -/
def execAsla (s : State) : Host.Outcome State Fault Refusal :=
  .next (s.accUnary .a asl8)

/-- ASLB: shift B left through C, 0 enters bit 0 (R333). -/
def execAslb (s : State) : Host.Outcome State Fault Refusal :=
  .next (s.accUnary .b asl8)

/-- ASLD: shift D left through C, 0 enters bit 0 (R334). -/
def execAsld (s : State) : Host.Outcome State Fault Refusal :=
  .next (s.dUnary asl16)

/-- ASR: shift the byte at M right, bit 7 kept (R335). -/
def execAsr (m : Addr) (s : State) : Host.Outcome State Fault Refusal :=
  finish (s.memUnary asr8 m)

/-- ASRA: shift A right, bit 7 kept (R336). -/
def execAsra (s : State) : Host.Outcome State Fault Refusal :=
  .next (s.accUnary .a asr8)

/-- ASRB: shift B right, bit 7 kept (R337). -/
def execAsrb (s : State) : Host.Outcome State Fault Refusal :=
  .next (s.accUnary .b asr8)

/-- LSL: the same instruction as ASL under its second name (30_encoding.md R122) (R338). -/
def execLsl (m : Addr) (s : State) : Host.Outcome State Fault Refusal :=
  finish (s.memUnary asl8 m)

/-- LSLA: the same instruction as ASLA under its second name (30_encoding.md R122) (R339). -/
def execLsla (s : State) : Host.Outcome State Fault Refusal :=
  .next (s.accUnary .a asl8)

/-- LSLB: the same instruction as ASLB under its second name (30_encoding.md R122) (R340). -/
def execLslb (s : State) : Host.Outcome State Fault Refusal :=
  .next (s.accUnary .b asl8)

/-- LSLD: the same instruction as ASLD under its second name (30_encoding.md R122) (R341). -/
def execLsld (s : State) : Host.Outcome State Fault Refusal :=
  .next (s.dUnary asl16)

/-- LSR: shift the byte at M right, 0 enters bit 7 (R342). -/
def execLsr (m : Addr) (s : State) : Host.Outcome State Fault Refusal :=
  finish (s.memUnary lsr8 m)

/-- LSRA: shift A right, 0 enters bit 7 (R343). -/
def execLsra (s : State) : Host.Outcome State Fault Refusal :=
  .next (s.accUnary .a lsr8)

/-- LSRB: shift B right, 0 enters bit 7 (R344). -/
def execLsrb (s : State) : Host.Outcome State Fault Refusal :=
  .next (s.accUnary .b lsr8)

/-- LSRD: shift D right, 0 enters bit 15 (R345). -/
def execLsrd (s : State) : Host.Outcome State Fault Refusal :=
  .next (s.dUnary lsr16)

/-- ROL: rotate the byte at M left through C (R346). -/
def execRol (m : Addr) (s : State) : Host.Outcome State Fault Refusal :=
  finish (s.memUnary rol8 m)

/-- ROLA: rotate A left through C (R347). -/
def execRola (s : State) : Host.Outcome State Fault Refusal :=
  .next (s.accUnary .a rol8)

/-- ROLB: rotate B left through C (R348). -/
def execRolb (s : State) : Host.Outcome State Fault Refusal :=
  .next (s.accUnary .b rol8)

/-- ROR: rotate the byte at M right through C (R349). -/
def execRor (m : Addr) (s : State) : Host.Outcome State Fault Refusal :=
  finish (s.memUnary ror8 m)

/-- RORA: rotate A right through C (R350). -/
def execRora (s : State) : Host.Outcome State Fault Refusal :=
  .next (s.accUnary .a ror8)

/-- RORB: rotate B right through C (R351). -/
def execRorb (s : State) : Host.Outcome State Fault Refusal :=
  .next (s.accUnary .b ror8)

end Sys2Proof.Machine
end

