-- ==== Sys2Proof/Machine/Stack.lean ====
section
/-! DEFINITION. The meanings of the stack instructions (41_stack.md). In each, PC is already past the instruction
(30_encoding.md R102). -/

namespace Sys2Proof.Machine

/-- PSHA: push A (R231). -/
def execPsha (s : State) : Host.Outcome State Fault Refusal :=
  finish (s.push8 s.a)

/-- PSHB: push B (R232). -/
def execPshb (s : State) : Host.Outcome State Fault Refusal :=
  finish (s.push8 s.b)

/-- PSHX: push IX, low byte first (R233). -/
def execPshx (s : State) : Host.Outcome State Fault Refusal :=
  finish (s.push16 s.ix)

/-- PSHY: push IY, low byte first (R234). -/
def execPshy (s : State) : Host.Outcome State Fault Refusal :=
  finish (s.push16 s.iy)

/-- PULA: pull A; no flag changes (R235). -/
def execPula (s : State) : Host.Outcome State Fault Refusal :=
  finish <| do
    let v ← s.pull8
    .ok (v.2.setA v.1)

/-- PULB: pull B; no flag changes (R236). -/
def execPulb (s : State) : Host.Outcome State Fault Refusal :=
  finish <| do
    let v ← s.pull8
    .ok (v.2.setB v.1)

/-- PULX: pull IX, high byte first; no flag changes (R237). -/
def execPulx (s : State) : Host.Outcome State Fault Refusal :=
  finish <| do
    let v ← s.pull16
    .ok (v.2.setIx v.1)

/-- PULY: pull IY, high byte first; no flag changes (R238). -/
def execPuly (s : State) : Host.Outcome State Fault Refusal :=
  finish <| do
    let v ← s.pull16
    .ok (v.2.setIy v.1)

/-- DES: SP - 1 to SP; no flag changes (R239). -/
def execDes (s : State) : Host.Outcome State Fault Refusal :=
  .next (s.setSp (s.sp - 1))

/-- INS: SP + 1 to SP; no flag changes (R240). -/
def execIns (s : State) : Host.Outcome State Fault Refusal :=
  .next (s.setSp (s.sp + 1))

end Sys2Proof.Machine
end

