-- ==== Sys2Proof/Machine/System.lean ====
section
/-! DEFINITION. The meanings of the condition code and system instructions (48_ccr_system.md). In each, PC is already past the instruction
(30_encoding.md R102). -/

namespace Sys2Proof.Machine

/-- CLC: clear C; nothing else changes (R401). -/
def execClc (s : State) : Host.Outcome State Fault Refusal :=
  .next (s.setCcr { s.ccr with c := false })

/-- CLI: clear I. When I was 1, the hidden bit IDelay holds maskable requests off for one instruction (10_state.md R54); the step
has cleared it before (R402). -/
def execCli (s : State) : Host.Outcome State Fault Refusal :=
  .next ((s.setIDelay s.ccr.i).setCcr { s.ccr with i := false })

/-- CLV: clear V; nothing else changes (R403). -/
def execClv (s : State) : Host.Outcome State Fault Refusal :=
  .next (s.setCcr { s.ccr with v := false })

/-- SEC: set C; nothing else changes (R404). -/
def execSec (s : State) : Host.Outcome State Fault Refusal :=
  .next (s.setCcr { s.ccr with c := true })

/-- SEI: set I; nothing else changes (R405). -/
def execSei (s : State) : Host.Outcome State Fault Refusal :=
  .next (s.setCcr { s.ccr with i := true })

/-- SEV: set V; nothing else changes (R406). -/
def execSev (s : State) : Host.Outcome State Fault Refusal :=
  .next (s.setCcr { s.ccr with v := true })

/-- TAP: A to CCR, X only downward (10_state.md R47). When this clears I, IDelay holds maskable requests off for one instruction
(R54) (R407). -/
def execTap (s : State) : Host.Outcome State Fault Refusal :=
  .next ((s.setIDelay (s.ccr.i && !s.a.getLsbD 4)).setCcr (s.ccr.load s.a))

/-- TPA: CCR to A; no flag changes (R408). -/
def execTpa (s : State) : Host.Outcome State Fault Refusal :=
  .next (s.setA s.ccr.toByte)

/-- NOP: nothing (R409). -/
def execNop (s : State) : Host.Outcome State Fault Refusal :=
  .next s

/-- SWI: take the software interrupt: the frame, I, and PC from the vector (60_exceptions.md R430) (R410). -/
def execSwi (s : State) : Host.Outcome State Fault Refusal :=
  finish (s.takeException .swi)

/-- RTI: pull the frame; X only downward (60_exceptions.md R432) (R411). -/
def execRti (s : State) : Host.Outcome State Fault Refusal :=
  finish (s.returnFromInterrupt)

/-- WAI: stack the frame and wait; the wait ends as 60_exceptions.md R436 says (R412). -/
def execWai (s : State) : Host.Outcome State Fault Refusal :=
  finish <| do
    let t ← s.pushFrame
    .ok (t.setRunState .waiting)

/-- STOP: with S set, nothing; else stop until 60_exceptions.md R437 ends it (R413). -/
def execStop (s : State) : Host.Outcome State Fault Refusal :=
  .next (bif s.ccr.s then s else s.setRunState .stopped)

/-- TEST: in a test mode, the endless state in which no register changes and only reset returns; outside, refused (R414). -/
def execTest (s : State) : Host.Outcome State Fault Refusal :=
  finish (bif s.params.testMode then .ok (s.setRunState .testing) else .error (.refuse .testOutsideTestModes))

end Sys2Proof.Machine
end

