-- ==== Sys2Proof/Machine/Fetch.lean ====
section
/-! DEFINITION. An instruction step: fetch and decode at PC, then run (00_scope.md R15(3), 30_encoding.md R102). -/

namespace Sys2Proof.Machine

/-- The byte at offset `k` from PC, read after the bytes before it as any memory byte is (30_encoding.md R102, 20_memory.md
R89). -/
def State.fetchByte (s : State) (k : Nat) : Except Stop Byte := s.readNth s.pc k

/-- The state that fetching `n` bytes leaves. -/
def State.afterFetch (s : State) (n : Nat) : State := s.afterReads s.pc n

/-- Decode the instruction at PC. All its bytes are read before any data access (30_encoding.md R102). -/
def State.fetch (s : State) : Except Stop Decoded := decodeWith s.fetchByte

/-- The state an instruction runs in: its bytes read, PC past them, mod 2^16 (10_state.md R27), and IDelay cleared (R54). -/
def State.atInstr (s : State) (length : Nat) : State :=
  ((s.afterFetch length).setPc (s.pc + BitVec.ofNat 16 length)).setIDelay false

/-- An unlisted opcode at PC: a fault of the model, or the trap with PC at the first byte as return address
(30_encoding.md R118, 60_exceptions.md R422). -/
def State.illegalOpcodeStep (s : State) (bytes : List Byte) : Host.Outcome State Fault Refusal :=
  match s.params.illegalOpcode with
  | .fault => .fault (.illegalOpcode s.pc bytes)
  | .trap => finish ((s.afterFetch bytes.length).takeException .illop)

/-- One instruction step (00_scope.md R15(3)). -/
def State.instrStep (s : State) : Host.Outcome State Fault Refusal :=
  match s.fetch with
  | .ok (.instr i n) => exec i (s.atInstr n)
  | .ok (.illegal bytes) => s.illegalOpcodeStep bytes
  | .error stop => finish (.error stop)

end Sys2Proof.Machine
end

