-- ==== Sys2Proof/Machine/Boundary.lean ====
section
/-! DEFINITION. A step boundary: what the environment presents, the reset, the interrupts, and the four run states
(00_scope.md R15, 60_exceptions.md R424 to R437). -/

namespace Sys2Proof.Machine

open Sys2Proof.Config

/-- Take in what the environment presents: its pending set replaces the standing one. With the script at its end the
requests stand as they are. -/
def State.present (s : State) : State :=
  match s.inputs with
  | [] => s
  | e :: rest => (s.setPending e.pending).setInputs rest

/-- The input `reset` of this boundary: that of the head of the script (60_exceptions.md R425). -/
def State.resetInput (s : State) : Option ResetSource :=
  match s.inputs with
  | [] => none
  | e :: _ => e.reset

/-- The environment presents a reset-class source at this boundary: as the input `reset`, or in the pending set
(60_exceptions.md R424, R425). -/
def State.presentsReset (s : State) (r : ResetSource) : Bool :=
  decide (s.resetInput = some r) || decide (.reset r ∈ s.present.pending)

/-- The reset that acts at this boundary: of the reset-class sources presented the first in the platform's order
(60_exceptions.md R424, R426). -/
def State.presentedReset (s : State) : Option ResetSource :=
  s.params.priority.findSome? fun
    | .reset r => bif s.presentsReset r then some r else none
    | .interrupt _ | .illop | .swi => none

/-- A step in `Running`: an unmasked request before the instruction at PC (00_scope.md R15, 60_exceptions.md R426(c)). -/
def State.runningStep (s : State) : Host.Outcome State Fault Refusal :=
  match s.chosen with
  | some i => finish (s.takeException (.interrupt i))
  | none => s.instrStep

/-- A boundary in `Waiting`: the frame is stacked already, so a request that can be taken only masks and loads PC; with
none the state stays as it is (60_exceptions.md R436). -/
def State.waitingStep (s : State) : Host.Outcome State Fault Refusal :=
  match s.chosen with
  | some i => finish (s.enterHandler (.interrupt i))
  | none => .next s

/-- A boundary in `Stopped`: the full entry, or going on after the STOP for a masked XIRQ, or staying
(60_exceptions.md R437). -/
def State.stoppedStep (s : State) : Host.Outcome State Fault Refusal :=
  match s.chosenInStop with
  | some i => finish (s.takeException (.interrupt i))
  | none => .next (bif s.resumesFromStop then s.setRunState .running else s)

/-- What the machine does at a boundary where no reset is presented. In `testing` nothing but a reset acts
(48_ccr_system.md R414). -/
def State.runStep (s : State) : Host.Outcome State Fault Refusal :=
  match s.runState with
  | .running => s.runningStep
  | .waiting => s.waitingStep
  | .stopped => s.stoppedStep
  | .testing => .next s

/-- One step: a presented reset acts in any run state (70_reset_and_hazards.md R470); else the run state decides. -/
def State.boundaryStep (s : State) : Host.Outcome State Fault Refusal :=
  match s.presentedReset with
  | some r => finish (s.present.resetStep r)
  | none => s.present.runStep

/-- The bytes of an instruction at PC and after it, whatever the platform would do with a write. -/
def State.placeBytes (s : State) (pc : Word) : List Byte → State
  | [] => s
  | b :: rest => (s.placeBytes (pc + 1) rest).setMem (Memory.write (s.placeBytes (pc + 1) rest).mem pc.toNat b)

/-- The platform answers a read at the address from its memory. -/
def State.isStorage (s : State) (addr : Word) : Bool :=
  match s.kind addr with
  | .ram | .rom => true
  | .device | .absent => false

/-- The platform answers every read of the longest instruction at PC from its memory. -/
def State.fetchesFromStorage (s : State) : Bool :=
  s.isStorage s.pc && s.isStorage (s.pc + 1) && s.isStorage (s.pc + 2) && s.isStorage (s.pc + 3) && s.isStorage (s.pc + 4)

/-- A script whose next entry presents nothing. -/
def quietNext : List EnvInput → List EnvInput
  | [] => []
  | _ :: rest => { reset := none, pending := [] } :: rest

/-- The instruction whose low `nbits` bits are `w`, the further bits 0, placed where the next step fetches; and what else
that step needs to be the instruction's: the running state, no standing or presented request, and storage at the
instruction's addresses. On `State.reset` only memory changes. -/
def State.placeInstr (s : State) (nbits w : Nat) : State :=
  let t := s.placeBytes s.pc (leBytes maxLength (w % 2 ^ nbits))
  { t with
    runState := .running
    pending := []
    inputs := quietNext s.inputs
    params := { s.params with regions := bif s.fetchesFromStorage then s.params.regions else [] } }

end Sys2Proof.Machine
end

