-- ==== Sys2Proof/Machine/Step.lean ====
section
/-! DEFINITION. The step of the machine, and placing an instruction where it fetches. -/

namespace Sys2Proof.Machine

/-- One step of the machine (00_scope.md R15). -/
def step (s : State) : Host.Outcome State Fault Refusal := s.boundaryStep

/-- `s` with an instruction stored where `step` fetches the next one. -/
def State.withFetchWord (s : State) (nbits w : Nat) : State := s.placeInstr nbits w

end Sys2Proof.Machine
end

