-- ==== Sys2Proof/Machine/Timing.lean ====
section
/-! DEFINITION. The Bytes, Cycle and Cycle by Cycle columns of Table 10-1 (30_encoding.md R121, 70_reset_and_hazards.md
R476 to R479). Time is a cost of a form, not state: nothing in the machine reads these functions. -/

namespace Sys2Proof

/-- An entry of the Cycle column (30_encoding.md R121, 70_reset_and_hazards.md R478). -/
inductive Machine.Cost
  /-- A constant number of MPU E-clock cycles. -/
  | cycles (n : Nat)
  /-- WAI: 14 + n, where the environment chooses n. -/
  | waits
  /-- TEST: infinity, or until reset occurs. -/
  | endless
deriving DecidableEq, Repr

/-- The three columns of one form: length in bytes, cycles, and the cycle-by-cycle reference, table and line. -/
structure Machine.Timing where
  bytes : Nat
  cost : Machine.Cost
  cycleRef : Nat × Nat
deriving DecidableEq, Repr

/-- Choose by the four memory forms. -/
def Addr.pick4 {α : Type} (dir ext x y : α) : Addr → Option α
  | .dir _ => some dir
  | .ext _ => some ext
  | .indX _ => some x
  | .indY _ => some y

/-- Choose by the three forms of the one-operand memory instructions; the direct shape has no row. -/
def Addr.pick3 {α : Type} (ext x y : α) : Addr → Option α
  | .dir _ => none
  | .ext _ => some ext
  | .indX _ => some x
  | .indY _ => some y

/-- Choose by the three forms of the bit instructions; the extended shape has no row. -/
def Addr.pickBit {α : Type} (dir x y : α) : Addr → Option α
  | .dir _ => some dir
  | .ext _ => none
  | .indX _ => some x
  | .indY _ => some y

/-- Choose by the five forms of an 8-bit source operand. -/
def Src8.pick {α : Type} (imm dir ext x y : α) : Src8 → Option α
  | .imm _ => some imm
  | .mem m => m.pick4 dir ext x y

/-- Choose by the five forms of a 16-bit source operand. -/
def Src16.pick {α : Type} (imm dir ext x y : α) : Src16 → Option α
  | .imm _ => some imm
  | .mem m => m.pick4 dir ext x y

/-- The three columns of an instruction's row; none for a shape that has no row. -/
def Instr.timing : Instr → Option Machine.Timing
  | .ldaa src => src.pick ⟨2, .cycles 2, (3, 1)⟩ ⟨2, .cycles 3, (4, 1)⟩ ⟨3, .cycles 4, (5, 2)⟩ ⟨2, .cycles 4, (6, 2)⟩ ⟨3, .cycles 5, (7, 2)⟩
  | .ldab src => src.pick ⟨2, .cycles 2, (3, 1)⟩ ⟨2, .cycles 3, (4, 1)⟩ ⟨3, .cycles 4, (5, 2)⟩ ⟨2, .cycles 4, (6, 2)⟩ ⟨3, .cycles 5, (7, 2)⟩
  | .ldd src => src.pick ⟨3, .cycles 3, (3, 2)⟩ ⟨2, .cycles 4, (4, 3)⟩ ⟨3, .cycles 5, (5, 4)⟩ ⟨2, .cycles 5, (6, 6)⟩ ⟨3, .cycles 6, (7, 6)⟩
  | .lds src => src.pick ⟨3, .cycles 3, (3, 2)⟩ ⟨2, .cycles 4, (4, 3)⟩ ⟨3, .cycles 5, (5, 4)⟩ ⟨2, .cycles 5, (6, 6)⟩ ⟨3, .cycles 6, (7, 6)⟩
  | .ldx src => src.pick ⟨3, .cycles 3, (3, 2)⟩ ⟨2, .cycles 4, (4, 3)⟩ ⟨3, .cycles 5, (5, 4)⟩ ⟨2, .cycles 5, (6, 6)⟩ ⟨3, .cycles 6, (7, 6)⟩
  | .ldy src => src.pick ⟨4, .cycles 4, (3, 4)⟩ ⟨3, .cycles 5, (4, 5)⟩ ⟨4, .cycles 6, (5, 6)⟩ ⟨3, .cycles 6, (6, 7)⟩ ⟨3, .cycles 6, (7, 6)⟩
  | .staa m => m.pick4 ⟨2, .cycles 3, (4, 2)⟩ ⟨3, .cycles 4, (5, 3)⟩ ⟨2, .cycles 4, (6, 5)⟩ ⟨3, .cycles 5, (7, 5)⟩
  | .stab m => m.pick4 ⟨2, .cycles 3, (4, 2)⟩ ⟨3, .cycles 4, (5, 3)⟩ ⟨2, .cycles 4, (6, 5)⟩ ⟨3, .cycles 5, (7, 5)⟩
  | .std m => m.pick4 ⟨2, .cycles 4, (4, 4)⟩ ⟨3, .cycles 5, (5, 5)⟩ ⟨2, .cycles 5, (6, 8)⟩ ⟨3, .cycles 6, (7, 7)⟩
  | .sts m => m.pick4 ⟨2, .cycles 4, (4, 4)⟩ ⟨3, .cycles 5, (5, 5)⟩ ⟨2, .cycles 5, (6, 8)⟩ ⟨3, .cycles 6, (7, 7)⟩
  | .stx m => m.pick4 ⟨2, .cycles 4, (4, 4)⟩ ⟨3, .cycles 5, (5, 5)⟩ ⟨2, .cycles 5, (6, 8)⟩ ⟨3, .cycles 6, (7, 7)⟩
  | .sty m => m.pick4 ⟨3, .cycles 5, (4, 6)⟩ ⟨4, .cycles 6, (5, 7)⟩ ⟨3, .cycles 6, (6, 9)⟩ ⟨3, .cycles 6, (7, 7)⟩
  | .tab => some ⟨1, .cycles 2, (2, 1)⟩
  | .tba => some ⟨1, .cycles 2, (2, 1)⟩
  | .tsx => some ⟨1, .cycles 3, (2, 3)⟩
  | .tsy => some ⟨2, .cycles 4, (2, 5)⟩
  | .txs => some ⟨1, .cycles 3, (2, 2)⟩
  | .tys => some ⟨2, .cycles 4, (2, 4)⟩
  | .xgdx => some ⟨1, .cycles 3, (2, 2)⟩
  | .xgdy => some ⟨2, .cycles 4, (2, 4)⟩
  | .clr m => m.pick3 ⟨3, .cycles 6, (5, 8)⟩ ⟨2, .cycles 6, (6, 3)⟩ ⟨3, .cycles 7, (7, 3)⟩
  | .clra => some ⟨1, .cycles 2, (2, 1)⟩
  | .clrb => some ⟨1, .cycles 2, (2, 1)⟩
  | .psha => some ⟨1, .cycles 3, (2, 6)⟩
  | .pshb => some ⟨1, .cycles 3, (2, 6)⟩
  | .pshx => some ⟨1, .cycles 4, (2, 7)⟩
  | .pshy => some ⟨2, .cycles 5, (2, 8)⟩
  | .pula => some ⟨1, .cycles 4, (2, 9)⟩
  | .pulb => some ⟨1, .cycles 4, (2, 9)⟩
  | .pulx => some ⟨1, .cycles 5, (2, 10)⟩
  | .puly => some ⟨2, .cycles 6, (2, 11)⟩
  | .des => some ⟨1, .cycles 3, (2, 3)⟩
  | .ins => some ⟨1, .cycles 3, (2, 3)⟩
  | .aba => some ⟨1, .cycles 2, (2, 1)⟩
  | .abx => some ⟨1, .cycles 3, (2, 2)⟩
  | .aby => some ⟨2, .cycles 4, (2, 4)⟩
  | .adca src => src.pick ⟨2, .cycles 2, (3, 1)⟩ ⟨2, .cycles 3, (4, 1)⟩ ⟨3, .cycles 4, (5, 2)⟩ ⟨2, .cycles 4, (6, 2)⟩ ⟨3, .cycles 5, (7, 2)⟩
  | .adcb src => src.pick ⟨2, .cycles 2, (3, 1)⟩ ⟨2, .cycles 3, (4, 1)⟩ ⟨3, .cycles 4, (5, 2)⟩ ⟨2, .cycles 4, (6, 2)⟩ ⟨3, .cycles 5, (7, 2)⟩
  | .adda src => src.pick ⟨2, .cycles 2, (3, 1)⟩ ⟨2, .cycles 3, (4, 1)⟩ ⟨3, .cycles 4, (5, 2)⟩ ⟨2, .cycles 4, (6, 2)⟩ ⟨3, .cycles 5, (7, 2)⟩
  | .addb src => src.pick ⟨2, .cycles 2, (3, 1)⟩ ⟨2, .cycles 3, (4, 1)⟩ ⟨3, .cycles 4, (5, 2)⟩ ⟨2, .cycles 4, (6, 2)⟩ ⟨3, .cycles 5, (7, 2)⟩
  | .addd src => src.pick ⟨3, .cycles 4, (3, 3)⟩ ⟨2, .cycles 5, (4, 7)⟩ ⟨3, .cycles 6, (5, 10)⟩ ⟨2, .cycles 6, (6, 10)⟩ ⟨3, .cycles 7, (7, 8)⟩
  | .sba => some ⟨1, .cycles 2, (2, 1)⟩
  | .sbca src => src.pick ⟨2, .cycles 2, (3, 1)⟩ ⟨2, .cycles 3, (4, 1)⟩ ⟨3, .cycles 4, (5, 2)⟩ ⟨2, .cycles 4, (6, 2)⟩ ⟨3, .cycles 5, (7, 2)⟩
  | .sbcb src => src.pick ⟨2, .cycles 2, (3, 1)⟩ ⟨2, .cycles 3, (4, 1)⟩ ⟨3, .cycles 4, (5, 2)⟩ ⟨2, .cycles 4, (6, 2)⟩ ⟨3, .cycles 5, (7, 2)⟩
  | .suba src => src.pick ⟨2, .cycles 2, (3, 1)⟩ ⟨2, .cycles 3, (4, 1)⟩ ⟨3, .cycles 4, (5, 2)⟩ ⟨2, .cycles 4, (6, 2)⟩ ⟨3, .cycles 5, (7, 2)⟩
  | .subb src => src.pick ⟨2, .cycles 2, (3, 1)⟩ ⟨2, .cycles 3, (4, 1)⟩ ⟨3, .cycles 4, (5, 2)⟩ ⟨2, .cycles 4, (6, 2)⟩ ⟨3, .cycles 5, (7, 2)⟩
  | .subd src => src.pick ⟨3, .cycles 4, (3, 3)⟩ ⟨2, .cycles 5, (4, 7)⟩ ⟨3, .cycles 6, (5, 10)⟩ ⟨2, .cycles 6, (6, 10)⟩ ⟨3, .cycles 7, (7, 8)⟩
  | .cba => some ⟨1, .cycles 2, (2, 1)⟩
  | .cmpa src => src.pick ⟨2, .cycles 2, (3, 1)⟩ ⟨2, .cycles 3, (4, 1)⟩ ⟨3, .cycles 4, (5, 2)⟩ ⟨2, .cycles 4, (6, 2)⟩ ⟨3, .cycles 5, (7, 2)⟩
  | .cmpb src => src.pick ⟨2, .cycles 2, (3, 1)⟩ ⟨2, .cycles 3, (4, 1)⟩ ⟨3, .cycles 4, (5, 2)⟩ ⟨2, .cycles 4, (6, 2)⟩ ⟨3, .cycles 5, (7, 2)⟩
  | .cpd src => src.pick ⟨4, .cycles 5, (3, 5)⟩ ⟨3, .cycles 6, (4, 9)⟩ ⟨4, .cycles 7, (5, 11)⟩ ⟨3, .cycles 7, (6, 11)⟩ ⟨3, .cycles 7, (7, 8)⟩
  | .cpx src => src.pick ⟨3, .cycles 4, (3, 3)⟩ ⟨2, .cycles 5, (4, 7)⟩ ⟨3, .cycles 6, (5, 10)⟩ ⟨2, .cycles 6, (6, 10)⟩ ⟨3, .cycles 7, (7, 8)⟩
  | .cpy src => src.pick ⟨4, .cycles 5, (3, 5)⟩ ⟨3, .cycles 6, (4, 9)⟩ ⟨4, .cycles 7, (5, 11)⟩ ⟨3, .cycles 7, (6, 11)⟩ ⟨3, .cycles 7, (7, 8)⟩
  | .neg m => m.pick3 ⟨3, .cycles 6, (5, 8)⟩ ⟨2, .cycles 6, (6, 3)⟩ ⟨3, .cycles 7, (7, 3)⟩
  | .nega => some ⟨1, .cycles 2, (2, 1)⟩
  | .negb => some ⟨1, .cycles 2, (2, 1)⟩
  | .inc m => m.pick3 ⟨3, .cycles 6, (5, 8)⟩ ⟨2, .cycles 6, (6, 3)⟩ ⟨3, .cycles 7, (7, 3)⟩
  | .inca => some ⟨1, .cycles 2, (2, 1)⟩
  | .incb => some ⟨1, .cycles 2, (2, 1)⟩
  | .dec m => m.pick3 ⟨3, .cycles 6, (5, 8)⟩ ⟨2, .cycles 6, (6, 3)⟩ ⟨3, .cycles 7, (7, 3)⟩
  | .deca => some ⟨1, .cycles 2, (2, 1)⟩
  | .decb => some ⟨1, .cycles 2, (2, 1)⟩
  | .inx => some ⟨1, .cycles 3, (2, 2)⟩
  | .iny => some ⟨2, .cycles 4, (2, 4)⟩
  | .dex => some ⟨1, .cycles 3, (2, 2)⟩
  | .dey => some ⟨2, .cycles 4, (2, 4)⟩
  | .tst m => m.pick3 ⟨3, .cycles 6, (5, 9)⟩ ⟨2, .cycles 6, (6, 4)⟩ ⟨3, .cycles 7, (7, 4)⟩
  | .tsta => some ⟨1, .cycles 2, (2, 1)⟩
  | .tstb => some ⟨1, .cycles 2, (2, 1)⟩
  | .daa => some ⟨1, .cycles 2, (2, 1)⟩
  | .mul => some ⟨1, .cycles 10, (2, 13)⟩
  | .idiv => some ⟨1, .cycles 41, (2, 17)⟩
  | .fdiv => some ⟨1, .cycles 41, (2, 17)⟩
  | .anda src => src.pick ⟨2, .cycles 2, (3, 1)⟩ ⟨2, .cycles 3, (4, 1)⟩ ⟨3, .cycles 4, (5, 2)⟩ ⟨2, .cycles 4, (6, 2)⟩ ⟨3, .cycles 5, (7, 2)⟩
  | .andb src => src.pick ⟨2, .cycles 2, (3, 1)⟩ ⟨2, .cycles 3, (4, 1)⟩ ⟨3, .cycles 4, (5, 2)⟩ ⟨2, .cycles 4, (6, 2)⟩ ⟨3, .cycles 5, (7, 2)⟩
  | .bita src => src.pick ⟨2, .cycles 2, (3, 1)⟩ ⟨2, .cycles 3, (4, 1)⟩ ⟨3, .cycles 4, (5, 2)⟩ ⟨2, .cycles 4, (6, 2)⟩ ⟨3, .cycles 5, (7, 2)⟩
  | .bitb src => src.pick ⟨2, .cycles 2, (3, 1)⟩ ⟨2, .cycles 3, (4, 1)⟩ ⟨3, .cycles 4, (5, 2)⟩ ⟨2, .cycles 4, (6, 2)⟩ ⟨3, .cycles 5, (7, 2)⟩
  | .eora src => src.pick ⟨2, .cycles 2, (3, 1)⟩ ⟨2, .cycles 3, (4, 1)⟩ ⟨3, .cycles 4, (5, 2)⟩ ⟨2, .cycles 4, (6, 2)⟩ ⟨3, .cycles 5, (7, 2)⟩
  | .eorb src => src.pick ⟨2, .cycles 2, (3, 1)⟩ ⟨2, .cycles 3, (4, 1)⟩ ⟨3, .cycles 4, (5, 2)⟩ ⟨2, .cycles 4, (6, 2)⟩ ⟨3, .cycles 5, (7, 2)⟩
  | .oraa src => src.pick ⟨2, .cycles 2, (3, 1)⟩ ⟨2, .cycles 3, (4, 1)⟩ ⟨3, .cycles 4, (5, 2)⟩ ⟨2, .cycles 4, (6, 2)⟩ ⟨3, .cycles 5, (7, 2)⟩
  | .orab src => src.pick ⟨2, .cycles 2, (3, 1)⟩ ⟨2, .cycles 3, (4, 1)⟩ ⟨3, .cycles 4, (5, 2)⟩ ⟨2, .cycles 4, (6, 2)⟩ ⟨3, .cycles 5, (7, 2)⟩
  | .com m => m.pick3 ⟨3, .cycles 6, (5, 8)⟩ ⟨2, .cycles 6, (6, 3)⟩ ⟨3, .cycles 7, (7, 3)⟩
  | .coma => some ⟨1, .cycles 2, (2, 1)⟩
  | .comb => some ⟨1, .cycles 2, (2, 1)⟩
  | .bclr m _ => m.pickBit ⟨3, .cycles 6, (4, 10)⟩ ⟨3, .cycles 7, (6, 13)⟩ ⟨4, .cycles 8, (7, 10)⟩
  | .bset m _ => m.pickBit ⟨3, .cycles 6, (4, 10)⟩ ⟨3, .cycles 7, (6, 13)⟩ ⟨4, .cycles 8, (7, 10)⟩
  | .asl m => m.pick3 ⟨3, .cycles 6, (5, 8)⟩ ⟨2, .cycles 6, (6, 3)⟩ ⟨3, .cycles 7, (7, 3)⟩
  | .asla => some ⟨1, .cycles 2, (2, 1)⟩
  | .aslb => some ⟨1, .cycles 2, (2, 1)⟩
  | .asld => some ⟨1, .cycles 3, (2, 2)⟩
  | .asr m => m.pick3 ⟨3, .cycles 6, (5, 8)⟩ ⟨2, .cycles 6, (6, 3)⟩ ⟨3, .cycles 7, (7, 3)⟩
  | .asra => some ⟨1, .cycles 2, (2, 1)⟩
  | .asrb => some ⟨1, .cycles 2, (2, 1)⟩
  | .lsl m => m.pick3 ⟨3, .cycles 6, (5, 8)⟩ ⟨2, .cycles 6, (6, 3)⟩ ⟨3, .cycles 7, (7, 3)⟩
  | .lsla => some ⟨1, .cycles 2, (2, 1)⟩
  | .lslb => some ⟨1, .cycles 2, (2, 1)⟩
  | .lsld => some ⟨1, .cycles 3, (2, 2)⟩
  | .lsr m => m.pick3 ⟨3, .cycles 6, (5, 8)⟩ ⟨2, .cycles 6, (6, 3)⟩ ⟨3, .cycles 7, (7, 3)⟩
  | .lsra => some ⟨1, .cycles 2, (2, 1)⟩
  | .lsrb => some ⟨1, .cycles 2, (2, 1)⟩
  | .lsrd => some ⟨1, .cycles 3, (2, 2)⟩
  | .rol m => m.pick3 ⟨3, .cycles 6, (5, 8)⟩ ⟨2, .cycles 6, (6, 3)⟩ ⟨3, .cycles 7, (7, 3)⟩
  | .rola => some ⟨1, .cycles 2, (2, 1)⟩
  | .rolb => some ⟨1, .cycles 2, (2, 1)⟩
  | .ror m => m.pick3 ⟨3, .cycles 6, (5, 8)⟩ ⟨2, .cycles 6, (6, 3)⟩ ⟨3, .cycles 7, (7, 3)⟩
  | .rora => some ⟨1, .cycles 2, (2, 1)⟩
  | .rorb => some ⟨1, .cycles 2, (2, 1)⟩
  | .bcc _ => some ⟨2, .cycles 3, (8, 1)⟩
  | .bcs _ => some ⟨2, .cycles 3, (8, 1)⟩
  | .beq _ => some ⟨2, .cycles 3, (8, 1)⟩
  | .bge _ => some ⟨2, .cycles 3, (8, 1)⟩
  | .bgt _ => some ⟨2, .cycles 3, (8, 1)⟩
  | .bhi _ => some ⟨2, .cycles 3, (8, 1)⟩
  | .bhs _ => some ⟨2, .cycles 3, (8, 1)⟩
  | .ble _ => some ⟨2, .cycles 3, (8, 1)⟩
  | .blo _ => some ⟨2, .cycles 3, (8, 1)⟩
  | .bls _ => some ⟨2, .cycles 3, (8, 1)⟩
  | .blt _ => some ⟨2, .cycles 3, (8, 1)⟩
  | .bmi _ => some ⟨2, .cycles 3, (8, 1)⟩
  | .bne _ => some ⟨2, .cycles 3, (8, 1)⟩
  | .bpl _ => some ⟨2, .cycles 3, (8, 1)⟩
  | .bra _ => some ⟨2, .cycles 3, (8, 1)⟩
  | .brn _ => some ⟨2, .cycles 3, (8, 1)⟩
  | .bvc _ => some ⟨2, .cycles 3, (8, 1)⟩
  | .bvs _ => some ⟨2, .cycles 3, (8, 1)⟩
  | .brclr m _ _ => m.pickBit ⟨4, .cycles 6, (4, 11)⟩ ⟨4, .cycles 7, (6, 14)⟩ ⟨5, .cycles 8, (7, 11)⟩
  | .brset m _ _ => m.pickBit ⟨4, .cycles 6, (4, 11)⟩ ⟨4, .cycles 7, (6, 14)⟩ ⟨5, .cycles 8, (7, 11)⟩
  | .jmp m => m.pick3 ⟨3, .cycles 3, (5, 1)⟩ ⟨2, .cycles 3, (6, 1)⟩ ⟨3, .cycles 4, (7, 1)⟩
  | .jsr m => m.pick4 ⟨2, .cycles 5, (4, 8)⟩ ⟨3, .cycles 6, (5, 12)⟩ ⟨2, .cycles 6, (6, 12)⟩ ⟨3, .cycles 7, (7, 9)⟩
  | .bsr _ => some ⟨2, .cycles 6, (8, 2)⟩
  | .rts => some ⟨1, .cycles 5, (2, 12)⟩
  | .clc => some ⟨1, .cycles 2, (2, 1)⟩
  | .cli => some ⟨1, .cycles 2, (2, 1)⟩
  | .clv => some ⟨1, .cycles 2, (2, 1)⟩
  | .sec => some ⟨1, .cycles 2, (2, 1)⟩
  | .sei => some ⟨1, .cycles 2, (2, 1)⟩
  | .sev => some ⟨1, .cycles 2, (2, 1)⟩
  | .tap => some ⟨1, .cycles 2, (2, 1)⟩
  | .tpa => some ⟨1, .cycles 2, (2, 1)⟩
  | .nop => some ⟨1, .cycles 2, (2, 1)⟩
  | .swi => some ⟨1, .cycles 14, (2, 15)⟩
  | .rti => some ⟨1, .cycles 12, (2, 14)⟩
  | .wai => some ⟨1, .waits, (2, 16)⟩
  | .stop => some ⟨1, .cycles 2, (2, 1)⟩
  | .test => some ⟨1, .endless, (2, 20)⟩

/-- The Cycle column (70_reset_and_hazards.md R476). -/
def Instr.cycles (i : Instr) : Option Machine.Cost := i.timing.map (·.cost)

/-- The Cycle by Cycle column (70_reset_and_hazards.md R479). -/
def Instr.cycleRef (i : Instr) : Option (Nat × Nat) := i.timing.map (·.cycleRef)

/-- The cycles of an interrupt entry (70_reset_and_hazards.md R476). -/
def Machine.entryCycles : Nat := 14

end Sys2Proof
end

