-- ==== Sys2Proof/Safety.lean ====
section
/-! DEFINITION. The terms that statements about the machine use: the condition-code cells of Table 10-1 (10_state.md R50),
which registers an instruction writes, where it stores, what else it touches, and the invariant of the machine. -/

namespace Sys2Proof

/-- A cell of the Condition Codes column (00_scope.md R9). -/
inductive Machine.Cell
  /-- `-`: the bit is not written. -/
  | kept
  /-- `↕`: the bit depends on operands or result. -/
  | changed
  /-- `0`. -/
  | cleared
  /-- `1`. -/
  | set
  /-- `↓`: the bit may fall and never rises. -/
  | falls
deriving DecidableEq, Repr

/-- What a cell says of a bit before and after. -/
def Machine.Cell.allows : Machine.Cell → Bool → Bool → Prop
  | .kept, before, after => after = before
  | .changed, _, _ => True
  | .cleared, _, after => after = false
  | .set, _, after => after = true
  | .falls, before, after => after = true → before = true

/-- The eight cells of a row, S first. -/
structure Machine.Cells where
  s : Machine.Cell
  x : Machine.Cell
  h : Machine.Cell
  i : Machine.Cell
  n : Machine.Cell
  z : Machine.Cell
  v : Machine.Cell
  c : Machine.Cell
deriving DecidableEq, Repr

/-- A row's cells allow a change of the condition code register. -/
structure Machine.Cells.Allow (k : Machine.Cells) (f g : Machine.CCR) : Prop where
  s : k.s.allows f.s g.s
  x : k.x.allows f.x g.x
  h : k.h.allows f.h g.h
  i : k.i.allows f.i g.i
  n : k.n.allows f.n g.n
  z : k.z.allows f.z g.z
  v : k.v.allows f.v g.v
  c : k.c.allows f.c g.c

/-- The Condition Codes column of Table 10-1, by mnemonic (10_state.md R50). -/
def Instr.cells : Instr → Machine.Cells
  | .ldaa _ | .ldab _ | .ldd _ | .lds _ | .ldx _
  | .ldy _ | .staa _ | .stab _ | .std _ | .sts _
  | .stx _ | .sty _ | .tab | .tba | .anda _
  | .andb _ | .bita _ | .bitb _ | .eora _ | .eorb _
  | .oraa _ | .orab _ | .bclr _ _ | .bset _ _ =>
      ⟨.kept, .kept, .kept, .kept, .changed, .changed, .cleared, .kept⟩
  | .tsx | .tsy | .txs | .tys | .xgdx
  | .xgdy | .psha | .pshb | .pshx | .pshy
  | .pula | .pulb | .pulx | .puly | .des
  | .ins | .abx | .aby | .bcc _ | .bcs _
  | .beq _ | .bge _ | .bgt _ | .bhi _ | .bhs _
  | .ble _ | .blo _ | .bls _ | .blt _ | .bmi _
  | .bne _ | .bpl _ | .bra _ | .brn _ | .bvc _
  | .bvs _ | .brclr _ _ _ | .brset _ _ _ | .jmp _ | .jsr _
  | .bsr _ | .rts | .tpa | .nop | .wai
  | .stop | .test =>
      ⟨.kept, .kept, .kept, .kept, .kept, .kept, .kept, .kept⟩
  | .clr _ | .clra | .clrb =>
      ⟨.kept, .kept, .kept, .kept, .cleared, .set, .cleared, .cleared⟩
  | .aba | .adca _ | .adcb _ | .adda _ | .addb _ =>
      ⟨.kept, .kept, .changed, .kept, .changed, .changed, .changed, .changed⟩
  | .addd _ | .sba | .sbca _ | .sbcb _ | .suba _
  | .subb _ | .subd _ | .cba | .cmpa _ | .cmpb _
  | .cpd _ | .cpx _ | .cpy _ | .neg _ | .nega
  | .negb | .daa | .asl _ | .asla | .aslb
  | .asld | .asr _ | .asra | .asrb | .lsl _
  | .lsla | .lslb | .lsld | .lsr _ | .lsra
  | .lsrb | .rol _ | .rola | .rolb | .ror _
  | .rora | .rorb =>
      ⟨.kept, .kept, .kept, .kept, .changed, .changed, .changed, .changed⟩
  | .inc _ | .inca | .incb | .dec _ | .deca
  | .decb =>
      ⟨.kept, .kept, .kept, .kept, .changed, .changed, .changed, .kept⟩
  | .inx | .iny | .dex | .dey =>
      ⟨.kept, .kept, .kept, .kept, .kept, .changed, .kept, .kept⟩
  | .tst _ | .tsta | .tstb =>
      ⟨.kept, .kept, .kept, .kept, .changed, .changed, .cleared, .cleared⟩
  | .mul =>
      ⟨.kept, .kept, .kept, .kept, .kept, .kept, .kept, .changed⟩
  | .idiv =>
      ⟨.kept, .kept, .kept, .kept, .kept, .changed, .cleared, .changed⟩
  | .fdiv =>
      ⟨.kept, .kept, .kept, .kept, .kept, .changed, .changed, .changed⟩
  | .com _ | .coma | .comb =>
      ⟨.kept, .kept, .kept, .kept, .changed, .changed, .cleared, .set⟩
  | .lsrd =>
      ⟨.kept, .kept, .kept, .kept, .cleared, .changed, .changed, .changed⟩
  | .clc =>
      ⟨.kept, .kept, .kept, .kept, .kept, .kept, .kept, .cleared⟩
  | .cli =>
      ⟨.kept, .kept, .kept, .cleared, .kept, .kept, .kept, .kept⟩
  | .clv =>
      ⟨.kept, .kept, .kept, .kept, .kept, .kept, .cleared, .kept⟩
  | .sec =>
      ⟨.kept, .kept, .kept, .kept, .kept, .kept, .kept, .set⟩
  | .sei | .swi =>
      ⟨.kept, .kept, .kept, .set, .kept, .kept, .kept, .kept⟩
  | .sev =>
      ⟨.kept, .kept, .kept, .kept, .kept, .kept, .set, .kept⟩
  | .tap | .rti =>
      ⟨.changed, .falls, .changed, .changed, .changed, .changed, .changed, .changed⟩

/-- The registers an instruction can name (10_state.md R20). -/
inductive Machine.Reg
  | a
  | b
  | ix
  | iy
  | sp
deriving DecidableEq, Repr

/-- The registers an instruction writes, from the "Writes" of its rule; PC and CCR apart. -/
def Instr.writes : Instr → List Machine.Reg
  | .ldaa _ | .tba | .clra | .aba | .adca _
  | .adda _ | .sba | .sbca _ | .suba _ | .nega
  | .inca | .deca | .daa | .anda _ | .eora _
  | .oraa _ | .coma | .asla | .asra | .lsla
  | .lsra | .rola | .rora | .tpa =>
      [.a]
  | .ldab _ | .tab | .clrb | .adcb _ | .addb _
  | .sbcb _ | .subb _ | .negb | .incb | .decb
  | .andb _ | .eorb _ | .orab _ | .comb | .aslb
  | .asrb | .lslb | .lsrb | .rolb | .rorb =>
      [.b]
  | .ldd _ | .addd _ | .subd _ | .mul | .asld
  | .lsld | .lsrd =>
      [.a, .b]
  | .lds _ | .txs | .tys | .psha | .pshb
  | .pshx | .pshy | .des | .ins | .jsr _
  | .bsr _ | .rts | .swi | .wai =>
      [.sp]
  | .ldx _ | .tsx | .abx | .inx | .dex =>
      [.ix]
  | .ldy _ | .tsy | .aby | .iny | .dey =>
      [.iy]
  | .staa _ | .stab _ | .std _ | .sts _ | .stx _
  | .sty _ | .clr _ | .cba | .cmpa _ | .cmpb _
  | .cpd _ | .cpx _ | .cpy _ | .neg _ | .inc _
  | .dec _ | .tst _ | .tsta | .tstb | .bita _
  | .bitb _ | .com _ | .bclr _ _ | .bset _ _ | .asl _
  | .asr _ | .lsl _ | .lsr _ | .rol _ | .ror _
  | .bcc _ | .bcs _ | .beq _ | .bge _ | .bgt _
  | .bhi _ | .bhs _ | .ble _ | .blo _ | .bls _
  | .blt _ | .bmi _ | .bne _ | .bpl _ | .bra _
  | .brn _ | .bvc _ | .bvs _ | .brclr _ _ _ | .brset _ _ _
  | .jmp _ | .clc | .cli | .clv | .sec
  | .sei | .sev | .tap | .nop | .stop
  | .test =>
      []
  | .xgdx | .idiv | .fdiv =>
      [.a, .b, .ix]
  | .xgdy =>
      [.a, .b, .iy]
  | .pula =>
      [.a, .sp]
  | .pulb =>
      [.b, .sp]
  | .pulx =>
      [.ix, .sp]
  | .puly =>
      [.iy, .sp]
  | .rti =>
      [.a, .b, .ix, .iy, .sp]

/-- The instruction may set PC to something other than the address after itself (10_state.md R27). -/
def Instr.writesPc : Instr → Bool
  | .bcc _ | .bcs _ | .beq _ | .bge _ | .bgt _
  | .bhi _ | .bhs _ | .ble _ | .blo _ | .bls _
  | .blt _ | .bmi _ | .bne _ | .bpl _ | .bra _
  | .brn _ | .bvc _ | .bvs _ | .brclr _ _ _ | .brset _ _ _
  | .jmp _ | .jsr _ | .bsr _ | .rts | .swi
  | .rti =>
      true
  | .ldaa _ | .ldab _ | .ldd _ | .lds _ | .ldx _
  | .ldy _ | .staa _ | .stab _ | .std _ | .sts _
  | .stx _ | .sty _ | .tab | .tba | .tsx
  | .tsy | .txs | .tys | .xgdx | .xgdy
  | .clr _ | .clra | .clrb | .psha | .pshb
  | .pshx | .pshy | .pula | .pulb | .pulx
  | .puly | .des | .ins | .aba | .abx
  | .aby | .adca _ | .adcb _ | .adda _ | .addb _
  | .addd _ | .sba | .sbca _ | .sbcb _ | .suba _
  | .subb _ | .subd _ | .cba | .cmpa _ | .cmpb _
  | .cpd _ | .cpx _ | .cpy _ | .neg _ | .nega
  | .negb | .inc _ | .inca | .incb | .dec _
  | .deca | .decb | .inx | .iny | .dex
  | .dey | .tst _ | .tsta | .tstb | .daa
  | .mul | .idiv | .fdiv | .anda _ | .andb _
  | .bita _ | .bitb _ | .eora _ | .eorb _ | .oraa _
  | .orab _ | .com _ | .coma | .comb | .bclr _ _
  | .bset _ _ | .asl _ | .asla | .aslb | .asld
  | .asr _ | .asra | .asrb | .lsl _ | .lsla
  | .lslb | .lsld | .lsr _ | .lsra | .lsrb
  | .lsrd | .rol _ | .rola | .rolb | .ror _
  | .rora | .rorb | .clc | .cli | .clv
  | .sec | .sei | .sev | .tap | .tpa
  | .nop | .wai | .stop | .test =>
      false

end Sys2Proof

namespace Sys2Proof.Machine

/-- The same in two states: the value of one register. -/
def State.sameReg (s t : State) : Reg → Prop
  | .a => t.a = s.a
  | .b => t.b = s.b
  | .ix => t.ix = s.ix
  | .iy => t.iy = s.iy
  | .sp => t.sp = s.sp

/-- The nine addresses of a frame pushed from here, in the order of the pushes (60_exceptions.md R430). -/
def State.frameAddresses (s : State) : List Word :=
  [s.sp, s.sp - 1, s.sp - 2, s.sp - 3, s.sp - 4, s.sp - 5, s.sp - 6, s.sp - 7, s.sp - 8]

/-- The addresses an instruction stores to, in the order of the stores, computed as its meaning computes them. -/
def storedAddresses (s : State) : Instr → List Word
  | .ldaa _ | .ldab _ | .ldd _ | .lds _ | .ldx _
  | .ldy _ | .tab | .tba | .tsx | .tsy
  | .txs | .tys | .xgdx | .xgdy | .clra
  | .clrb | .pula | .pulb | .pulx | .puly
  | .des | .ins | .aba | .abx | .aby
  | .adca _ | .adcb _ | .adda _ | .addb _ | .addd _
  | .sba | .sbca _ | .sbcb _ | .suba _ | .subb _
  | .subd _ | .cba | .cmpa _ | .cmpb _ | .cpd _
  | .cpx _ | .cpy _ | .nega | .negb | .inca
  | .incb | .deca | .decb | .inx | .iny
  | .dex | .dey | .tst _ | .tsta | .tstb
  | .daa | .mul | .idiv | .fdiv | .anda _
  | .andb _ | .bita _ | .bitb _ | .eora _ | .eorb _
  | .oraa _ | .orab _ | .coma | .comb | .asla
  | .aslb | .asld | .asra | .asrb | .lsla
  | .lslb | .lsld | .lsra | .lsrb | .lsrd
  | .rola | .rolb | .rora | .rorb | .bcc _
  | .bcs _ | .beq _ | .bge _ | .bgt _ | .bhi _
  | .bhs _ | .ble _ | .blo _ | .bls _ | .blt _
  | .bmi _ | .bne _ | .bpl _ | .bra _ | .brn _
  | .bvc _ | .bvs _ | .brclr _ _ _ | .brset _ _ _ | .jmp _
  | .rts | .clc | .cli | .clv | .sec
  | .sei | .sev | .tap | .tpa | .nop
  | .rti | .stop | .test =>
      []
  | .staa m | .stab m | .clr m | .neg m | .inc m
  | .dec m | .com m | .bclr m _ | .bset m _ | .asl m
  | .asr m | .lsl m | .lsr m | .rol m | .ror m =>
      [s.ea m]
  | .std m | .sts m | .stx m | .sty m =>
      [s.ea m, s.ea m + 1]
  | .psha | .pshb =>
      [s.sp]
  | .pshx | .pshy | .jsr _ | .bsr _ =>
      [s.sp, s.sp - 1]
  | .swi | .wai =>
      s.frameAddresses

/-- The invariant of the machine: memory is canonical (20_memory.md R70); IDelay stands only in the running state and only
after I was cleared (10_state.md R54); the endless TEST stands only where TestMode allows it (48_ccr_system.md R414). -/
structure State.Inv (s : State) : Prop where
  memory : Memory.wf s.mem = true
  delay : s.iDelay = true → s.ccr.i = false ∧ s.runState = .running
  testing : s.runState = .testing → s.params.testMode = true

end Sys2Proof.Machine

/-! ### What the rules say, in the terms of integer arithmetic

These functions say again, over Nat and Int and not with the model's bit formulas, what value a rule gives. They are for
statements alone; no meaning uses them. -/

namespace Sys2Proof.Spec

open Sys2Proof.Machine

/-- The value does not fit a signed byte. -/
def overflows8 (x : Int) : Bool := decide (x < -128 ∨ 127 < x)

/-- The value does not fit a signed word. -/
def overflows16 (x : Int) : Bool := decide (x < -32768 ∨ 32767 < x)

/-- N and Z of a byte (10_state.md R37). -/
def signZero8 (r : Byte) (f : CCR) : CCR := { f with n := decide (128 ≤ r.toNat), z := decide (r.toNat = 0) }

/-- N and Z of a word (10_state.md R38). -/
def signZero16 (r : Word) (f : CCR) : CCR := { f with n := decide (32768 ≤ r.toNat), z := decide (r.toNat = 0) }

/-- N and Z from the value moved, V cleared (10_state.md R43). -/
def moved8 (r : Byte) (f : CCR) : CCR := { signZero8 r f with v := false }

/-- N and Z from the word moved, V cleared (10_state.md R43). -/
def moved16 (r : Word) (f : CCR) : CCR := { signZero16 r f with v := false }

/-- The sum of two bytes and a carry, and its flags (10_state.md R39). -/
def addByte (a m : Byte) (c : Bool) (f : CCR) : Byte × CCR :=
  let r : Byte := BitVec.ofNat 8 (a.toNat + m.toNat + c.toNat)
  (r, { signZero8 r f with
        h := decide (15 < a.toNat % 16 + m.toNat % 16 + c.toNat)
        v := overflows8 (a.toInt + m.toInt + c.toNat)
        c := decide (255 < a.toNat + m.toNat + c.toNat) })

/-- The difference of two bytes and a borrow, and its flags; H is not among them (10_state.md R40). -/
def subByte (a m : Byte) (c : Bool) (f : CCR) : Byte × CCR :=
  let r : Byte := BitVec.ofInt 8 (a.toInt - m.toInt - c.toNat)
  (r, { signZero8 r f with
        v := overflows8 (a.toInt - m.toInt - c.toNat)
        c := decide ((a.toNat : Int) - m.toNat - c.toNat < 0) })

/-- The sum of two words, and its flags (10_state.md R41). -/
def addWord (a m : Word) (f : CCR) : Word × CCR :=
  let r : Word := BitVec.ofNat 16 (a.toNat + m.toNat)
  (r, { signZero16 r f with
        v := overflows16 (a.toInt + m.toInt)
        c := decide (65535 < a.toNat + m.toNat) })

/-- The difference of two words, and its flags (10_state.md R42). -/
def subWord (a m : Word) (f : CCR) : Word × CCR :=
  let r : Word := BitVec.ofInt 16 (a.toInt - m.toInt)
  (r, { signZero16 r f with
        v := overflows16 (a.toInt - m.toInt)
        c := decide (a.toNat < m.toNat) })

/-- A byte plus 1; C is not among its flags (10_state.md R45). -/
def incByte (x : Byte) (f : CCR) : Byte × CCR :=
  let r : Byte := BitVec.ofNat 8 (x.toNat + 1)
  (r, { signZero8 r f with v := overflows8 (x.toInt + 1) })

/-- A byte minus 1; C is not among its flags (10_state.md R45). -/
def decByte (x : Byte) (f : CCR) : Byte × CCR :=
  let r : Byte := BitVec.ofNat 8 (x.toNat + 255)
  (r, { signZero8 r f with v := overflows8 (x.toInt - 1) })

/-- 0 minus a byte (10_state.md R46). -/
def negByte (x : Byte) (f : CCR) : Byte × CCR :=
  let r : Byte := BitVec.ofInt 8 (-x.toInt)
  (r, { signZero8 r f with v := overflows8 (-x.toInt), c := decide (x.toNat ≠ 0) })

/-- $FF minus a byte; V is cleared and C set (10_state.md R46). -/
def comByte (x : Byte) (f : CCR) : Byte × CCR :=
  let r : Byte := BitVec.ofNat 8 (255 - x.toNat)
  (r, { signZero8 r f with v := false, c := true })

/-- The flags of a shift of a byte: V is N xor C, both after it (10_state.md R44). -/
def shifted8 (r : Byte) (out : Bool) (f : CCR) : CCR :=
  { signZero8 r f with v := decide (128 ≤ r.toNat) ^^ out, c := out }

/-- The flags of a shift of a word (10_state.md R44). -/
def shifted16 (r : Word) (out : Bool) (f : CCR) : CCR :=
  { signZero16 r f with v := decide (32768 ≤ r.toNat) ^^ out, c := out }

/-- Twice a byte (45_shift_rotate.md R330). -/
def aslByte (x : Byte) (f : CCR) : Byte × CCR :=
  let r : Byte := BitVec.ofNat 8 (2 * x.toNat)
  (r, shifted8 r (decide (128 ≤ x.toNat)) f)

/-- Half a signed byte, rounded down (45_shift_rotate.md R330, R335). -/
def asrByte (x : Byte) (f : CCR) : Byte × CCR :=
  let r : Byte := BitVec.ofInt 8 (x.toInt / 2)
  (r, shifted8 r (decide (x.toNat % 2 = 1)) f)

/-- Half an unsigned byte (45_shift_rotate.md R330). -/
def lsrByte (x : Byte) (f : CCR) : Byte × CCR :=
  let r : Byte := BitVec.ofNat 8 (x.toNat / 2)
  (r, shifted8 r (decide (x.toNat % 2 = 1)) f)

/-- Twice a byte plus the old carry (45_shift_rotate.md R330). -/
def rolByte (x : Byte) (f : CCR) : Byte × CCR :=
  let r : Byte := BitVec.ofNat 8 (2 * x.toNat + f.c.toNat)
  (r, shifted8 r (decide (128 ≤ x.toNat)) f)

/-- Half a byte, the old carry on top (45_shift_rotate.md R330). -/
def rorByte (x : Byte) (f : CCR) : Byte × CCR :=
  let r : Byte := BitVec.ofNat 8 (x.toNat / 2 + 128 * f.c.toNat)
  (r, shifted8 r (decide (x.toNat % 2 = 1)) f)

/-- Twice a word (45_shift_rotate.md R330). -/
def aslWord (x : Word) (f : CCR) : Word × CCR :=
  let r : Word := BitVec.ofNat 16 (2 * x.toNat)
  (r, shifted16 r (decide (32768 ≤ x.toNat)) f)

/-- Half a word (45_shift_rotate.md R330). -/
def lsrWord (x : Word) (f : CCR) : Word × CCR :=
  let r : Word := BitVec.ofNat 16 (x.toNat / 2)
  (r, shifted16 r (decide (x.toNat % 2 = 1)) f)

/-- The packed-BCD byte of a number below 100 (42_arithmetic.md R287). -/
def bcd (n : Nat) : Byte := BitVec.ofNat 8 (16 * (n / 10) + n % 10)

/-- A byte, H and C that the addition of two packed-BCD bytes and a carry leaves (93_implementation_defined.md U4). -/
def FromBcdSum (a : Byte) (h c : Bool) : Prop :=
  ∃ p q : Nat, ∃ cin : Bool, p < 100 ∧ q < 100 ∧
    a.toNat = ((bcd p).toNat + (bcd q).toNat + cin.toNat) % 256 ∧
    h = decide (15 < p % 10 + q % 10 + cin.toNat) ∧
    c = decide (255 < (bcd p).toNat + (bcd q).toNat + cin.toNat)

/-- The target of a relative branch from the address after it: the offset is a signed byte, the sum wraps (30_encoding.md
R110). -/
def branchTarget (pc : Word) (rr : Byte) : Word :=
  BitVec.ofNat 16 (pc.toNat + (if rr.toNat < 128 then rr.toNat else rr.toNat + 65280))

end Sys2Proof.Spec

namespace Sys2Proof.Machine

open Sys2Proof.Config

/-- Nine bytes of RAM take a frame pushed from here (60_exceptions.md R430). -/
def State.FrameInRam (s : State) : Prop := ∀ x ∈ s.frameAddresses, s.kind x = .ram

/-- The vector of a source holds a handler's address, in bytes that a frame pushed from here leaves alone. -/
def State.HandlerAt (s : State) (src : Source) (handler : Word) : Prop :=
  vectorAddress s.params.vectors src ∉ s.frameAddresses ∧ vectorAddress s.params.vectors src + 1 ∉ s.frameAddresses ∧
    s.read16 (vectorAddress s.params.vectors src) = .ok handler

/-- The nine bytes of the frame of 60_exceptions.md R430 stand in memory, SP is nine lower, and every other byte that is no
device's reads as before. -/
structure State.Stacked (s t : State) : Prop where
  sp : t.sp = s.sp - 9
  pcLow : t.read8 s.sp = .ok (loByte s.pc)
  pcHigh : t.read8 (s.sp - 1) = .ok (hiByte s.pc)
  iyLow : t.read8 (s.sp - 2) = .ok (loByte s.iy)
  iyHigh : t.read8 (s.sp - 3) = .ok (hiByte s.iy)
  ixLow : t.read8 (s.sp - 4) = .ok (loByte s.ix)
  ixHigh : t.read8 (s.sp - 5) = .ok (hiByte s.ix)
  a : t.read8 (s.sp - 6) = .ok s.a
  b : t.read8 (s.sp - 7) = .ok s.b
  ccr : t.read8 (s.sp - 8) = .ok s.ccr.toByte
  storage : ∀ x ∈ s.frameAddresses, s.kind x ≠ .device
  rest : ∀ x, x ∉ s.frameAddresses → s.kind x ≠ .device → t.read8 x = s.read8 x

/-- Everything but memory, the devices, SP, PC, CCR, the run state and IDelay is the same. -/
structure State.SameElse (s t : State) : Prop where
  a : t.a = s.a
  b : t.b = s.b
  ix : t.ix = s.ix
  iy : t.iy = s.iy
  pending : t.pending = s.pending
  inputs : t.inputs = s.inputs
  draws : t.draws = s.draws
  params : t.params = s.params

/-- The state after the entry of 60_exceptions.md R430: the frame, the masks, the handler's address. -/
structure State.Entered (s t : State) (src : Source) (handler : Word) : Prop where
  stacked : s.Stacked t
  same : s.SameElse t
  pc : t.pc = handler
  ccr : t.ccr = { s.ccr with i := true, x := s.ccr.x || decide (src = .interrupt .xirq) }
  running : t.runState = .running
  delay : t.iDelay = false

/-- The next step of this state is an instruction step: no reset is presented, the machine runs, and no request that is
presented can be taken (00_scope.md R15). -/
structure State.RunsNext (s : State) : Prop where
  noReset : s.presentedReset = none
  running : s.present.runState = .running
  noRequest : s.present.chosen = none

/-- The first instruction bytes at PC are those of an instruction's encoding, and each can be read. -/
def State.Holds (s : State) (i : Instr) : Prop :=
  ∀ k (h : k < (encode i).length), s.fetchByte k = .ok (encode i)[k]

end Sys2Proof.Machine

namespace Sys2Proof.Machine

/-- The state after a byte is stored: RAM keeps it, a device sees it, ROM and nothing ignore it (20_memory.md R71, R84). -/
def State.stored (s : State) (addr : Word) (v : Byte) : State :=
  if s.kind addr = .ram then s.setMem (Memory.write s.mem addr.toNat v)
  else if s.kind addr = .device then s.setDeviceLog (.write addr v :: s.deviceLog)
  else s

/-- The state after a word is stored, high byte at the lower address (20_memory.md R74). -/
def State.stored16 (s : State) (addr v : Word) : State :=
  (s.stored addr (hiByte v)).stored (addr + 1) (loByte v)

/-- The state after a word is pushed: low byte first, SP two lower (20_memory.md R79). -/
def State.pushed16 (s : State) (v : Word) : State :=
  ((s.stored s.sp (loByte v)).stored (s.sp - 1) (hiByte v)).setSp (s.sp - 2)

/-- The nine bytes of the frame, in the order of the pushes (60_exceptions.md R430). -/
def State.frameBytes (s : State) : List Byte :=
  [loByte s.pc, hiByte s.pc, loByte s.iy, hiByte s.iy, loByte s.ix, hiByte s.ix, s.a, s.b, s.ccr.toByte]

/-- The state after the frame is stacked, wherever it lies: nine stores and SP nine lower (60_exceptions.md R430,
20_memory.md R92). -/
def State.framed (s : State) : State :=
  ((s.frameAddresses.zip s.frameBytes).foldl (fun t p => t.stored p.1 p.2) s).setSp (s.sp - 9)

/-- The state after the handler's address is read from the vector and entered: I set, X set by XIRQ, no delay, running
(60_exceptions.md R430). -/
def State.handled (s : State) (src : Config.Source) (handler : Word) : State :=
  ((((s.afterRead16 (vectorAddress s.params.vectors src)).setCcr
    { s.ccr with i := true, x := s.ccr.x || decide (src = .interrupt .xirq) }).setPc handler).setIDelay false).setRunState
    .running

/-- The events that devices see: reads and writes of device addresses alone, and the writes at the given addresses. -/
def State.NotesOnly (s t : State) (as : List Word) : Prop :=
  ∃ new, t.deviceLog = new ++ s.deviceLog ∧
    ∀ e ∈ new, ∃ x, s.kind x = .device ∧ (e = .read x ∨ x ∈ as ∧ ∃ v, e = .write x v)

/-- `exec` of one instruction, `n` times, stopping where it stops. -/
def execTimes : Nat → Instr → State → Host.Outcome State Fault Refusal
  | 0, _, s => .next s
  | n + 1, i, s =>
      match exec i s with
      | .next t => execTimes n i t
      | .fault f => .fault f
      | .refused r => .refused r

end Sys2Proof.Machine

namespace Sys2Proof.Spec

open Sys2Proof.Machine

/-- A branch, whatever its offset, goes from `s` to `t` (the state its reads leave) with PC at the target when the
proposition holds, and to `t` itself otherwise (46_branch.md R360). -/
def TakenAfter (s t : State) (branch : Byte → Instr) (p : Prop) : Prop :=
  ∀ rr, (p → exec (branch rr) s = .next (t.setPc (branchTarget s.pc rr))) ∧ (¬ p → exec (branch rr) s = .next t)

/-- A branch that reads nothing moves PC to the target when the proposition holds and changes nothing otherwise. -/
def TakenWhen (s : State) (branch : Byte → Instr) (p : Prop) : Prop := TakenAfter s s branch p

/-- Exactly one of two branches is taken, from `s` to `t` (46_branch.md R360(e)). -/
def ComplementaryAfter (s t : State) (i j : Byte → Instr) : Prop :=
  ∃ p : Prop, TakenAfter s t i p ∧ TakenAfter s t j (¬ p)

/-- The same of branches that read nothing. -/
def Complementary (s : State) (i j : Byte → Instr) : Prop := ComplementaryAfter s s i j

end Sys2Proof.Spec
end

