-- ==== Sys2Proof/Certificates/Slice0/Obligations.lean ====
section
/-! DEFINITION. The statements for the provers, each from the rules of spec/ that its entry in OBLIGATIONS.json cites. -/

open Sys2Proof Sys2Proof.Machine

/-- Decoding the encoding of a well-formed instruction gives it back, under its first name. The round trip of 30_encoding.md R101, with every operand at every value and any bytes behind the instruction. -/
def Obligations.DecodeOfEncode : Prop :=
  ∀ (i : Instr) (rest : List Byte), i.WF → decode (encode i ++ rest) = .ok (i.firstName, (encode i).length)

/-- Whatever decodes is a well-formed instruction whose encoding is the bytes read. No two byte strings of a length share an instruction, and nothing outside the maps decodes. -/
def Obligations.EncodeOfDecode : Prop :=
  ∀ (bytes : List Byte) (i : Instr) (n : Nat), decode bytes = .ok (i, n) →
    i.WF ∧ i.firstName = i ∧ n = (encode i).length ∧ encode i = bytes.take n

/-- Exactly the unlisted opcode bytes and prebyte pairs are illegal. The illegal encodings: 20 single bytes, and all pairs but 64, 7 and 4. -/
def Obligations.IllegalOpcodes : Prop :=
  ∀ (b : Byte) (rest : List Byte),
    (decode (b :: rest) = .error (.illegalOpcode [b]) ↔ b ∈
      ([0x41, 0x42, 0x45, 0x4B, 0x4E, 0x51, 0x52, 0x55, 0x5B, 0x5E, 0x61, 0x62, 0x65, 0x6B,
        0x71, 0x72, 0x75, 0x7B, 0x87, 0xC7] : List Byte)) ∧
    (decode (0x18 :: b :: rest) = .error (.illegalOpcode [0x18, b]) ↔ b ∉
      ([0x08, 0x09, 0x1C, 0x1D, 0x1E, 0x1F, 0x30, 0x35, 0x38, 0x3A, 0x3C, 0x60, 0x63, 0x64,
        0x66, 0x67, 0x68, 0x69, 0x6A, 0x6C, 0x6D, 0x6E, 0x6F, 0x8C, 0x8F, 0x9C, 0xA0, 0xA1,
        0xA2, 0xA3, 0xA4, 0xA5, 0xA6, 0xA7, 0xA8, 0xA9, 0xAA, 0xAB, 0xAC, 0xAD, 0xAE, 0xAF,
        0xBC, 0xCE, 0xDE, 0xDF, 0xE0, 0xE1, 0xE2, 0xE3, 0xE4, 0xE5, 0xE6, 0xE7, 0xE8, 0xE9,
        0xEA, 0xEB, 0xEC, 0xED, 0xEE, 0xEF, 0xFE, 0xFF] : List Byte)) ∧
    (decode (0x1A :: b :: rest) = .error (.illegalOpcode [0x1A, b]) ↔ b ∉
      ([0x83, 0x93, 0xA3, 0xAC, 0xB3, 0xEE, 0xEF] : List Byte)) ∧
    (decode (0xCD :: b :: rest) = .error (.illegalOpcode [0xCD, b]) ↔ b ∉
      ([0xA3, 0xAC, 0xEE, 0xEF] : List Byte))

/-- Byte strings written out from the encoding tables decode to their instructions. A sanity statement on fixed words. -/
def Obligations.SpecWordsDecode : Prop :=
  decode [0x1A, 0xEE, 0x05] = .ok (.ldy (.mem (.indX 0x05)), 3) ∧
  decode [0x1A, 0x83, 0x12, 0x34] = .ok (.cpd (.imm 0x1234), 4) ∧
  decode [0x15, 0x20, 0x0F] = .ok (.bclr (.dir 0x20) 0x0F, 3) ∧
  decode [0x18, 0x68, 0x01] = .ok (.asl (.indY 0x01), 3) ∧
  decode [0x18, 0x1E, 0x02, 0x80, 0xFB] = .ok (.brset (.indY 0x02) 0x80 0xFB, 5) ∧
  decode [0xBD, 0xD0, 0x00] = .ok (.jsr (.ext 0xD000), 3)

/-- Every form has a length of 1 to 5 bytes and one of the eleven constant cycle counts, but for WAI and TEST. Properties (b) and (c) of 70_reset_and_hazards.md R477, over all forms. -/
def Obligations.CycleColumn : Prop :=
  ∀ i : Instr,
    (i.WF → ∃ k, i.timing = some k ∧ 1 ≤ k.bytes ∧ k.bytes ≤ 5 ∧
      ((∃ n, k.cost = .cycles n ∧ n ∈ [2, 3, 4, 5, 6, 7, 8, 10, 12, 14, 41] ∧ (n = 41 ↔ i = .idiv ∨ i = .fdiv)) ∨
        (i = .wai ∧ k.cost = .waits) ∨ (i = .test ∧ k.cost = .endless))) ∧
    (¬ i.WF → i.timing = none)

/-- A step runs the instruction decoded at PC, with PC past it and IDelay cleared. The statement through which the statements about `exec` reach a run (00_scope.md R15). -/
def Obligations.StepRunsDecodedInstruction : Prop :=
  ∀ (s : State) (i : Instr) (n : Nat), s.RunsNext → s.present.fetch = .ok (.instr i n) →
    step s = exec i (((s.present.afterFetch n).setPc (s.pc + BitVec.ofNat 16 n)).setIDelay false)

/-- When memory at PC holds the encoding of a well-formed instruction, the step executes it. The fetch reads memory as it stands (20_memory.md R89) and only the bytes of the instruction. -/
def Obligations.StepRunsEncodedInstruction : Prop :=
  ∀ (s : State) (i : Instr), s.RunsNext → i.WF → s.present.Holds i →
    step s = exec i.firstName (((s.present.afterFetch (encode i).length).setPc
      (s.pc + BitVec.ofNat 16 (encode i).length)).setIDelay false)

/-- An unlisted opcode faults under the policy fault and takes the ILLOP entry under the policy trap. Both values of the parameter; 92_eei_decisions.md D9 makes fault the default. `State.afterFetch` is the state after the bytes are read. What ROM, nothing and a device do with a byte of the frame is `State.stored`; for nothing and a device it is the model's choice (DESIGN CHOICE, logs 12 and 26). -/
def Obligations.IllegalOpcodeStep : Prop :=
  ∀ (s : State) (bytes : List Byte), s.RunsNext → s.present.fetch = .ok (.illegal bytes) →
    (s.params.illegalOpcode = .fault → step s = .fault (.illegalOpcode s.pc bytes)) ∧
    (s.params.illegalOpcode = .trap → ∀ handler,
      ((s.present.afterFetch bytes.length).FrameInRam → (s.present.afterFetch bytes.length).HandlerAt .illop handler →
        ∃ t, step s = .next t ∧ (s.present.afterFetch bytes.length).Entered t .illop handler) ∧
      ((s.present.afterFetch bytes.length).framed.read16 (vectorAddress s.params.vectors .illop) = .ok handler →
        step s = .next ((s.present.afterFetch bytes.length).framed.handled .illop handler)))

/-- SWI stacks nine bytes, sets I, keeps X and goes to the SWI vector. SWI acts whatever I and X are (48_ccr_system.md R410). What ROM, nothing and a device do with a byte of the frame is `State.stored` (logs 12 and 26). -/
def Obligations.SoftwareInterruptEnters : Prop :=
  ∀ (s : State) (handler : Word),
    (s.FrameInRam → s.HandlerAt .swi handler → ∃ t, exec .swi s = .next t ∧ s.Entered t .swi handler) ∧
    (s.framed.read16 (vectorAddress s.params.vectors .swi) = .ok handler →
      exec .swi s = .next (s.framed.handled .swi handler))

/-- A request that can be taken is entered before the instruction at PC. The hardware interrupt takes the entry of 60_exceptions.md R430, the same as SWI. What ROM, nothing and a device do with a byte of the frame is `State.stored` (logs 12 and 26). -/
def Obligations.InterruptEnters : Prop :=
  ∀ (s : State) (i : Config.IntSource) (handler : Word), s.presentedReset = none → s.present.runState = .running →
    s.present.chosen = some i →
    (s.present.FrameInRam → s.present.HandlerAt (.interrupt i) handler →
      ∃ t, step s = .next t ∧ s.present.Entered t (.interrupt i) handler) ∧
    (s.present.framed.read16 (vectorAddress s.params.vectors (.interrupt i)) = .ok handler →
      step s = .next (s.present.framed.handled (.interrupt i) handler))

/-- RTI right after an entry restores the registers, all eight flags, SP and PC. X comes back too: the entry can only have raised it, and RTI may lower it (60_exceptions.md R432). -/
def Obligations.ReturnUndoesEntry : Prop :=
  ∀ (s t : State) (src : Config.Source) (handler : Word), s.Entered t src handler →
    ∃ u, exec .rti t = .next u ∧ u.a = s.a ∧ u.b = s.b ∧ u.ix = s.ix ∧ u.iy = s.iy ∧ u.ccr = s.ccr ∧ u.sp = s.sp ∧
      u.pc = s.pc ∧ u.mem = t.mem ∧ u.runState = .running ∧ u.iDelay = false

/-- The request taken is the first in priority that is pending and not masked; of the resets presented the first in priority acts. For every order of priority the platform may give. A reset acts before any other request, whatever that order: the statement ResetStep. That the input reset and the pending set are put together, and that a source which the order does not list is not on the platform, is the model's reading (DEDUCED and DESIGN CHOICE, log 16). -/
def Obligations.RequestChosen : Prop :=
  ∀ (s : State) (i : Config.IntSource),
    (s.chosen = some i ↔ ∃ before after, s.params.priority = before ++ .interrupt i :: after ∧
      .interrupt i ∈ s.pending ∧ s.unmasked i = true ∧
      ∀ j, .interrupt j ∈ before → .interrupt j ∈ s.pending → s.unmasked j = false) ∧
    (s.unmasked i = if i = .xirq then !s.ccr.x else !s.ccr.i && !s.iDelay) ∧
    ((∀ j, .interrupt j ∈ s.pending → s.unmasked j = false) → s.chosen = none) ∧
    (∀ r, s.presentedReset = some r ↔ ∃ before after, s.params.priority = before ++ .reset r :: after ∧
      s.presentsReset r = true ∧ ∀ q, .reset q ∈ before → s.presentsReset q = false) ∧
    (∀ r, s.presentsReset r = true ↔
      (∃ e rest, s.inputs = e :: rest ∧ e.reset = some r) ∨ .reset r ∈ s.present.pending)

/-- WAI stacks the frame of an entry and waits, changing no flag; leaving the wait completes that entry. The frame is stacked once, before the wait (48_ccr_system.md R412). What nothing and a device do with a byte of the frame is `State.stored` (logs 12 and 26). -/
def Obligations.WaitInstruction : Prop :=
  ∀ s : State,
    exec .wai s = .next (s.framed.setRunState .waiting) ∧
    (∀ x, s.kind x = .rom → s.framed.read8 x = s.read8 x) ∧
    (s.FrameInRam →
      ∃ t, exec .wai s = .next t ∧ s.Stacked t ∧ s.SameElse t ∧ t.pc = s.pc ∧ t.ccr = s.ccr ∧ t.iDelay = s.iDelay ∧
        t.runState = .waiting ∧ ∀ src : Config.Source, t.enterHandler src = s.takeException src)

/-- Waiting ends by an unmasked request, which masks and loads PC and stacks nothing. Steps (b) and (c) of the entry alone (60_exceptions.md R436). -/
def Obligations.WaitEnds : Prop :=
  ∀ s : State, s.presentedReset = none → s.present.runState = .waiting →
    (s.present.chosen = none → step s = .next s.present) ∧
    ∀ (i : Config.IntSource) (handler : Word), s.present.chosen = some i →
      s.present.read16 (vectorAddress s.params.vectors (.interrupt i)) = .ok handler →
      step s = .next (((((s.present.afterRead16 (vectorAddress s.params.vectors (.interrupt i))).setCcr
        { s.ccr with i := true, x := s.ccr.x || decide (i = .xirq) }).setPc handler).setIDelay false).setRunState .running)

/-- STOP does nothing with S set and stops the machine with S clear; XIRQ and IRQ and a reset alone end the stop. 60_exceptions.md R437 (b), (c), (d); its (a) is the reset statement. That IRQ with I = 0 is entered though a masked XIRQ is pending, and that no on-chip source ends the stop, is DEDUCED: the model's reading of R437 (log 17). What ROM, nothing and a device do with a byte of the frame is `State.stored`; for nothing and a device it is the model's choice (DESIGN CHOICE, logs 12 and 26). -/
def Obligations.StopInstruction : Prop :=
  (∀ s : State,
    (s.ccr.s = true → exec .stop s = .next s) ∧ (s.ccr.s = false → exec .stop s = .next (s.setRunState .stopped))) ∧
  (∀ (s : State) (i : Config.IntSource), s.chosenInStop = some i ↔
    ∃ before after, s.params.priority = before ++ .interrupt i :: after ∧ .interrupt i ∈ s.pending ∧
      (i = .xirq ∧ s.ccr.x = false ∨ i = .irq ∧ s.ccr.i = false) ∧
      ∀ j, .interrupt j ∈ before → .interrupt j ∈ s.pending → ¬ (j = .xirq ∧ s.ccr.x = false ∨ j = .irq ∧ s.ccr.i = false)) ∧
  ∀ s : State, s.presentedReset = none → s.present.runState = .stopped →
    (∀ i, s.present.chosenInStop = some i →
      .interrupt i ∈ s.present.pending ∧ (i = .xirq ∧ s.ccr.x = false ∨ i = .irq ∧ s.ccr.i = false) ∧
      ∀ handler,
        (s.present.FrameInRam → s.present.HandlerAt (.interrupt i) handler →
          ∃ t, step s = .next t ∧ s.present.Entered t (.interrupt i) handler) ∧
        (s.present.framed.read16 (vectorAddress s.params.vectors (.interrupt i)) = .ok handler →
          step s = .next (s.present.framed.handled (.interrupt i) handler))) ∧
    (s.present.chosenInStop = none → .interrupt .xirq ∈ s.params.priority → .interrupt .xirq ∈ s.present.pending → s.ccr.x = true →
      step s = .next (s.present.setRunState .running)) ∧
    (s.present.chosenInStop = none → ¬ (.interrupt .xirq ∈ s.params.priority ∧ .interrupt .xirq ∈ s.present.pending ∧ s.ccr.x = true) →
      step s = .next s.present)

/-- After CLI or TAP clears I no maskable request is taken before the next instruction has run. The hidden bit IDelay (10_state.md R54); every instruction step clears it before it runs the instruction. -/
def Obligations.DelayAfterClearingMask : Prop :=
  (∀ s t : State, exec .cli s = .next t ∨ exec .tap s = .next t → s.ccr.i = true → t.ccr.i = false →
    ∀ i : Config.IntSource, i ≠ .xirq → t.unmasked i = false) ∧
  (∀ s : State, s.presentedReset = none → s.present.runState = .running → s.iDelay = true →
    ¬ (.interrupt .xirq ∈ s.present.pending ∧ s.ccr.x = false) → step s = s.present.instrStep) ∧
  (∀ s t : State, exec .rti s = .next t → t.iDelay = s.iDelay)

/-- A presented reset sets S, X and I, runs from the vector of its source and keeps memory, in any run state. The registers that R470 leaves without a value are free values (log 3); the statement says nothing of them. That a reset is an event the devices see, and that they see it before the vector is read, stands for their own re-initialisation (R471): the model's choice (DESIGN CHOICE, log 26). -/
def Obligations.ResetStep : Prop :=
  ∀ (s : State) (r : Config.ResetSource) (start : Word), s.presentedReset = some r →
    (s.noteDevice (.reset r)).read16 (vectorAddress s.params.vectors (.reset r)) = .ok start →
    ∃ t, step s = .next t ∧ t.ccr.s = true ∧ t.ccr.x = true ∧ t.ccr.i = true ∧ t.iDelay = false ∧
      t.runState = .running ∧ t.pc = start ∧ t.mem = s.mem ∧ t.params = s.params ∧ t.pending = s.present.pending ∧
      t.deviceLog = ((s.noteDevice (.reset r)).afterRead16 (vectorAddress s.params.vectors (.reset r))).deviceLog

/-- No step writes a parameter or clears a request. Over every step: instruction, entry, wait, stop and reset. That the CPU clears no request is 60_exceptions.md R425. That the parameters are a record in State is the model's choice (DESIGN CHOICE, log 13), and so is the script, with its standing requests and its one entry for each step (DESIGN CHOICE, log 14). -/
def Obligations.EnvironmentKept : Prop :=
  ∀ s t : State, step s = .next t →
    t.params = s.params ∧ t.pending = s.present.pending ∧ t.inputs = s.inputs.tail

/-- Every step keeps the machine's invariant. For every state that meets the invariant, not only those a run reaches. -/
def Obligations.StepKeepsInvariant : Prop :=
  ∀ s t : State, s.Inv → step s = .next t → t.Inv

/-- The machine after reset meets the invariant, has S, X and I set, runs, and lists no memory. The values that 10_state.md R56 gives. The other registers hold values of the model's choosing (logs 1, 2) that no statement uses. -/
def Obligations.ResetHasInvariant : Prop :=
  State.reset.Inv ∧ State.reset.ccr.s = true ∧ State.reset.ccr.x = true ∧ State.reset.ccr.i = true ∧
  State.reset.runState = .running ∧ State.reset.iDelay = false ∧ ∀ a, Memory.read State.reset.mem a = none

/-- Every instruction changes exactly the flags that its row of the condition code matrix allows. The matrix of 10_state.md R50, all 145 mnemonics and eight bits. -/
def Obligations.FlagMatrix : Prop :=
  ∀ (i : Instr) (s t : State), exec i s = .next t → i.cells.Allow s.ccr t.ccr

/-- An instruction changes no register but those its rule names as written. The table `Instr.writes` is read from the "Writes" of each instruction's rule. -/
def Obligations.RegisterFrame : Prop :=
  ∀ (i : Instr) (s t : State) (r : Reg), exec i s = .next t → r ∉ i.writes → s.sameReg t r

/-- An instruction changes no byte of memory but those it stores to. `storedAddresses` gives the effective address, the next address for a word, the bytes at and below SP for a push. What a device answers is no byte of memory (20_memory.md R71). -/
def Obligations.MemoryFrame : Prop :=
  ∀ (i : Instr) (s t : State) (x : Word), exec i s = .next t → x ∉ storedAddresses s i →
    Memory.read t.mem x.toNat = Memory.read s.mem x.toNat ∧ (s.kind x ≠ .device → t.read8 x = s.read8 x)

/-- PC, run state, delay bit and free values change only by the instructions that name them. What is left of the state after the flags, the registers and memory. The record of what devices see is the model's (log 26), the parameters and the script are logs 13 and 14, the count of free values is log 5. -/
def Obligations.ControlFrame : Prop :=
  ∀ (i : Instr) (s t : State), exec i s = .next t →
    (i.writesPc = false → t.pc = s.pc) ∧
    (i ∉ [.wai, .stop, .test, .swi] → t.runState = s.runState) ∧
    (i ∉ [.cli, .tap, .swi] → t.iDelay = s.iDelay) ∧
    (i ∉ [.daa, .idiv, .fdiv] → t.draws = s.draws) ∧
    t.pending = s.pending ∧ t.inputs = s.inputs ∧ t.params = s.params ∧ s.NotesOnly t (storedAddresses s i)

/-- Only reset and the XIRQ entry set X; TAP and RTI may clear it; X masks XIRQ. 10_state.md R30, over instructions and over whole steps. -/
def Obligations.XNeverRisesBySoftware : Prop :=
  (∀ (i : Instr) (s t : State), exec i s = .next t → i ≠ .tap → i ≠ .rti → t.ccr.x = s.ccr.x) ∧
  (∀ s t : State, exec .tap s = .next t → t.ccr.x = (s.ccr.x && s.a.getLsbD 6)) ∧
  (∀ (s t : State) (v : Byte), exec .rti s = .next t → s.read8 (s.sp + 1) = .ok v →
    t.ccr.x = (s.ccr.x && v.getLsbD 6)) ∧
  (∀ s t : State, step s = .next t → s.ccr.x = false → t.ccr.x = true →
    s.presentedReset ≠ none ∨ s.present.chosen = some .xirq ∨ s.present.chosenInStop = some .xirq) ∧
  (∀ (s t : State) (r : Config.ResetSource), s.resetStep r = .ok t → t.ccr.x = true) ∧
  (∀ s t : State, s.takeException (.interrupt .xirq) = .ok t → t.ccr.x = true) ∧
  (∀ s : State, s.ccr.x = true → s.unmasked .xirq = false)

/-- An instruction stops only on a byte without a value, TEST outside test modes, or DAA outside a restricted domain. No other stop exists for any instruction in any state. That a byte without a value faults, and is no free value, is the first of the two ways of 10_state.md R57, the model's choice (DESIGN CHOICE, log 4). -/
def Obligations.OnlyTheseStops : Prop :=
  ∀ (i : Instr) (s : State),
    (∀ f, exec i s = .fault f → ∃ x, f = .unwrittenRead x ∧ s.kind x ≠ .device ∧
      (Memory.read s.mem x.toNat = none ∨ s.kind x = .absent)) ∧
    (∀ r, exec i s = .refused r →
      (i = .test ∧ s.params.testMode = false ∧ r = .testOutsideTestModes) ∨
      (i = .daa ∧ s.params.daaDomain = .refuse ∧ r = .daaOutsideDomain))

/-- A store to RAM is read back and leaves every other byte; ROM and nothing ignore it; a device sees it. The address after $FFFF is $0000 (20_memory.md R76): the word clauses hold there too. That an address with nothing ignores a write is the model's choice (R84 says that it may; DESIGN CHOICE, log 12), and so is that a device is the record of what it has seen (DESIGN CHOICE, log 26). -/
def Obligations.StoredByte : Prop :=
  ∀ (s : State) (addr : Word) (v : Byte),
    s.write8 addr v = .ok (s.stored addr v) ∧
    (s.kind addr = .device → s.stored addr v = s.setDeviceLog (.write addr v :: s.deviceLog)) ∧
    (s.kind addr = .ram → (s.stored addr v).read8 addr = .ok v ∧ (s.stored addr v).deviceLog = s.deviceLog) ∧
    (s.kind addr = .rom ∨ s.kind addr = .absent → s.stored addr v = s) ∧
    (∀ x, x ≠ addr → s.kind x ≠ .device → (s.stored addr v).read8 x = s.read8 x) ∧
    (∀ w, s.write16 addr w = .ok (s.stored16 addr w)) ∧
    (∀ w, s.kind addr = .ram → s.kind (addr + 1) = .ram → (s.stored16 addr w).read16 addr = .ok w)

/-- Effective addresses and operands are those of the addressing modes. The forms of 30_encoding.md section 2. What a device answers holds for every function `Config.deviceByte` of what it has seen: that form is the model's choice (DESIGN CHOICE, log 26). -/
def Obligations.OperandForms : Prop :=
  ∀ (s : State) (b : Byte) (w : Word) (m : Addr),
    (s.ea (.dir b)).toNat = b.toNat ∧ s.ea (.ext w) = w ∧
    (s.ea (.indX b)).toNat = (s.ix.toNat + b.toNat) % 65536 ∧
    (s.ea (.indY b)).toNat = (s.iy.toNat + b.toNat) % 65536 ∧
    s.opnd8 (.imm b) = .ok b ∧ s.opnd16 (.imm w) = .ok w ∧ s.opnd8 (.mem m) = s.read8 (s.ea m) ∧
    (∀ h l, s.read8 (s.ea m) = .ok h → (s.afterRead (s.ea m)).read8 (s.ea m + 1) = .ok l →
      ∃ v, s.opnd16 (.mem m) = .ok v ∧ v.toNat = h.toNat * 256 + l.toNat) ∧
    s.afterOpnd8 (.imm b) = s ∧ s.afterOpnd16 (.imm w) = s ∧ s.afterOpnd8 (.mem m) = s.afterRead (s.ea m) ∧
    s.afterOpnd16 (.mem m) = (s.afterRead (s.ea m)).afterRead (s.ea m + 1) ∧
    (s.kind w ≠ .device → s.afterRead w = s) ∧
    (s.kind w = .device → s.read8 w = .ok (Config.deviceByte s.deviceLog w) ∧
      s.afterRead w = s.setDeviceLog (.read w :: s.deviceLog))

/-- An instruction whose operand cannot be read stops by that name, and so does an entry or a reset whose vector cannot. The forms on which the meanings stop, said as such; no store, push or frame is among them, wherever it lies. That the whole instruction stops, with no partial effect, is the model's choice (DESIGN CHOICE, log 23), and so is that a byte without a value faults (DESIGN CHOICE, log 4). -/
def Obligations.AccessStops : Prop :=
  ∀ (s : State) (e : Stop),
    (∀ src, s.opnd8 src = .error e → ∀ i ∈ [.ldaa src, .ldab src, .adca src, .adcb src, .adda src, .addb src,
      .sbca src, .sbcb src, .suba src, .subb src, .cmpa src, .cmpb src,
      .anda src, .andb src, .bita src, .bitb src, .eora src, .eorb src,
      .oraa src, .orab src],
      exec i s = finish (.error e)) ∧
    (∀ src, s.opnd16 src = .error e → ∀ i ∈ [.ldd src, .lds src, .ldx src, .ldy src, .addd src, .subd src, .cpd src, .cpx src, .cpy src], exec i s = finish (.error e)) ∧
    (∀ m mm rr, s.read8 (s.ea m) = .error e → ∀ i ∈ [.neg m, .inc m, .dec m, .com m, .asl m, .lsl m, .asr m, .lsr m, .rol m, .ror m,
      .tst m, .bclr m mm, .bset m mm, .brclr m mm rr, .brset m mm rr], exec i s = finish (.error e)) ∧
    (s.read8 (s.sp + 1) = .error e → ∀ i ∈ [.pula, .pulb], exec i s = finish (.error e)) ∧
    (s.read16 (s.sp + 1) = .error e → ∀ i ∈ [.pulx, .puly, .rts], exec i s = finish (.error e)) ∧
    (∀ k < 9, (∀ j < k, ∃ v, s.read8 (s.sp + BitVec.ofNat 16 (j + 1)) = .ok v) →
      s.read8 (s.sp + BitVec.ofNat 16 (k + 1)) = .error e → exec .rti s = finish (.error e)) ∧
    (s.framed.read16 (vectorAddress s.params.vectors .swi) = .error e → exec .swi s = finish (.error e)) ∧
    (s.RunsNext → s.present.fetch = .error e → step s = finish (.error e)) ∧
    (∀ bytes, s.RunsNext → s.present.fetch = .ok (.illegal bytes) → s.params.illegalOpcode = .trap →
      (s.present.afterFetch bytes.length).framed.read16 (vectorAddress s.params.vectors .illop) = .error e →
      step s = finish (.error e)) ∧
    (∀ i, s.presentedReset = none →
      (s.present.runState = .running ∧ s.present.chosen = some i ∨
        s.present.runState = .stopped ∧ s.present.chosenInStop = some i) →
      s.present.framed.read16 (vectorAddress s.params.vectors (.interrupt i)) = .error e → step s = finish (.error e)) ∧
    (∀ i, s.presentedReset = none → s.present.runState = .waiting → s.present.chosen = some i →
      s.present.read16 (vectorAddress s.params.vectors (.interrupt i)) = .error e → step s = finish (.error e)) ∧
    (∀ r, s.presentedReset = some r →
      (s.noteDevice (.reset r)).read16 (vectorAddress s.params.vectors (.reset r)) = .error e →
      step s = finish (.error e))

/-- LDAA, LDAB, LDD, LDS, LDX and LDY load the operand, set N and Z from it and clear V. C keeps its value. -/
def Obligations.Loads : Prop :=
  ∀ s : State,
    (∀ (src : Src8) (m : Byte), s.opnd8 src = .ok m →
      exec (.ldaa src) s = .next (((s.afterOpnd8 src).setA m).setCcr (Spec.moved8 m s.ccr)) ∧
      exec (.ldab src) s = .next (((s.afterOpnd8 src).setB m).setCcr (Spec.moved8 m s.ccr))) ∧
    ∀ (src : Src16) (v : Word), s.opnd16 src = .ok v →
      exec (.ldd src) s = .next ((((s.afterOpnd16 src).setA (hiByte v)).setB (loByte v)).setCcr (Spec.moved16 v s.ccr)) ∧
      exec (.lds src) s = .next (((s.afterOpnd16 src).setSp v).setCcr (Spec.moved16 v s.ccr)) ∧
      exec (.ldx src) s = .next (((s.afterOpnd16 src).setIx v).setCcr (Spec.moved16 v s.ccr)) ∧
      exec (.ldy src) s = .next (((s.afterOpnd16 src).setIy v).setCcr (Spec.moved16 v s.ccr))

/-- STAA, STAB, STD, STS, STX and STY store their register and set N, Z and V from it. Every address, a device's too. The state stored is described by the statement StoredByte (logs 12 and 26). -/
def Obligations.Stores : Prop :=
  ∀ (s : State) (m : Addr),
    exec (.staa m) s = .next ((s.stored (s.ea m) s.a).setCcr (Spec.moved8 s.a s.ccr)) ∧
    exec (.stab m) s = .next ((s.stored (s.ea m) s.b).setCcr (Spec.moved8 s.b s.ccr)) ∧
    exec (.std m) s = .next ((s.stored16 (s.ea m) s.d).setCcr (Spec.moved16 s.d s.ccr)) ∧
    exec (.sts m) s = .next ((s.stored16 (s.ea m) s.sp).setCcr (Spec.moved16 s.sp s.ccr)) ∧
    exec (.stx m) s = .next ((s.stored16 (s.ea m) s.ix).setCcr (Spec.moved16 s.ix s.ccr)) ∧
    exec (.sty m) s = .next ((s.stored16 (s.ea m) s.iy).setCcr (Spec.moved16 s.iy s.ccr))

/-- The transfers and exchanges move their registers; only TAB and TBA change flags. Every state. -/
def Obligations.Transfers : Prop :=
  ∀ s : State,
    exec .tab s = .next ((s.setB s.a).setCcr (Spec.moved8 s.a s.ccr)) ∧
    exec .tba s = .next ((s.setA s.b).setCcr (Spec.moved8 s.b s.ccr)) ∧
    exec .tsx s = .next (s.setIx (BitVec.ofNat 16 (s.sp.toNat + 1))) ∧
    exec .tsy s = .next (s.setIy (BitVec.ofNat 16 (s.sp.toNat + 1))) ∧
    exec .txs s = .next (s.setSp (BitVec.ofNat 16 (s.ix.toNat + 65535))) ∧
    exec .tys s = .next (s.setSp (BitVec.ofNat 16 (s.iy.toNat + 65535))) ∧
    exec .xgdx s = .next (((s.setA (hiByte s.ix)).setB (loByte s.ix)).setIx (joinBytes s.a s.b)) ∧
    exec .xgdy s = .next (((s.setA (hiByte s.iy)).setB (loByte s.iy)).setIy (joinBytes s.a s.b))

/-- CLR, CLRA, CLRB write zero and the flags 0 1 0 0; TST, TSTA, TSTB set N and Z and clear V and C. Every form, and every address of CLR's byte. What ROM, nothing and a device do with its read and its store is `State.afterRead` and `State.stored`; for nothing and a device it is the model's choice (DESIGN CHOICE, logs 12 and 26). -/
def Obligations.ClearsAndTests : Prop :=
  ∀ (s : State) (m : Addr),
    exec .clra s = .next ((s.setA 0).setCcr { s.ccr with n := false, z := true, v := false, c := false }) ∧
    exec .clrb s = .next ((s.setB 0).setCcr { s.ccr with n := false, z := true, v := false, c := false }) ∧
    exec (.clr m) s = .next (((s.afterRead (s.ea m)).stored (s.ea m) 0).setCcr
      { s.ccr with n := false, z := true, v := false, c := false }) ∧
    exec .tsta s = .next (s.setCcr { Spec.signZero8 s.a s.ccr with v := false, c := false }) ∧
    exec .tstb s = .next (s.setCcr { Spec.signZero8 s.b s.ccr with v := false, c := false }) ∧
    ∀ v : Byte, s.read8 (s.ea m) = .ok v →
      exec (.tst m) s = .next ((s.afterRead (s.ea m)).setCcr { Spec.signZero8 v s.ccr with v := false, c := false })

/-- Pushes store at SP downward, low byte first; pulls read above SP, high byte first; INS and DES move SP; no flag changes. SP wraps mod 65536. Every SP, at ROM and at a device too (20_memory.md R92; logs 12 and 26). -/
def Obligations.StackMoves : Prop :=
  ∀ s : State,
    exec .psha s = .next ((s.stored s.sp s.a).setSp (s.sp - 1)) ∧
    exec .pshb s = .next ((s.stored s.sp s.b).setSp (s.sp - 1)) ∧
    exec .pshx s = .next (s.pushed16 s.ix) ∧ exec .pshy s = .next (s.pushed16 s.iy) ∧
    (∀ v, s.read8 (s.sp + 1) = .ok v →
      exec .pula s = .next (((s.afterRead (s.sp + 1)).setSp (s.sp + 1)).setA v) ∧
      exec .pulb s = .next (((s.afterRead (s.sp + 1)).setSp (s.sp + 1)).setB v)) ∧
    (∀ v, s.read16 (s.sp + 1) = .ok v →
      exec .pulx s = .next (((s.afterRead16 (s.sp + 1)).setSp (s.sp + 2)).setIx v) ∧
      exec .puly s = .next (((s.afterRead16 (s.sp + 1)).setSp (s.sp + 2)).setIy v)) ∧
    exec .ins s = .next (s.setSp (BitVec.ofNat 16 (s.sp.toNat + 1))) ∧
    exec .des s = .next (s.setSp (BitVec.ofNat 16 (s.sp.toNat + 65535)))

/-- Push8 stores at SP and then decrements it; Pull8 increments SP and then reads there. 20_memory.md R78. That an address with nothing ignores the push and what a device makes of it (`State.stored`) are the model's choice (DESIGN CHOICE, logs 12 and 26), and so is the fault of a byte without a value (DESIGN CHOICE, log 4). -/
def Obligations.PushAndPullOperations : Prop :=
  ∀ (s : State) (v : Byte),
    s.push8 v = .ok ((s.stored s.sp v).setSp (BitVec.ofNat 16 (s.sp.toNat + 65535))) ∧
    (s.read8 (BitVec.ofNat 16 (s.sp.toNat + 1)) = .ok v →
      s.pull8 = .ok (v, (s.afterRead (BitVec.ofNat 16 (s.sp.toNat + 1))).setSp (BitVec.ofNat 16 (s.sp.toNat + 1)))) ∧
    (∀ e, s.read8 (BitVec.ofNat 16 (s.sp.toNat + 1)) = .error e → s.pull8 = .error e)

/-- ABA, ADDA, ADDB, ADCA and ADCB add, with H, N, Z, V and C those of the exact sum. The flags are stated over Nat and Int (`Spec.addByte`), not by the bit formulas of the model. -/
def Obligations.ByteAdditions : Prop :=
  ∀ s : State,
    exec .aba s = .next ((s.setA (Spec.addByte s.a s.b false s.ccr).1).setCcr (Spec.addByte s.a s.b false s.ccr).2) ∧
    ∀ (src : Src8) (m : Byte), s.opnd8 src = .ok m →
      exec (.adda src) s = .next (((s.afterOpnd8 src).setA (Spec.addByte s.a m false s.ccr).1).setCcr (Spec.addByte s.a m false s.ccr).2) ∧
      exec (.addb src) s = .next (((s.afterOpnd8 src).setB (Spec.addByte s.b m false s.ccr).1).setCcr (Spec.addByte s.b m false s.ccr).2) ∧
      exec (.adca src) s =
        .next (((s.afterOpnd8 src).setA (Spec.addByte s.a m s.ccr.c s.ccr).1).setCcr (Spec.addByte s.a m s.ccr.c s.ccr).2) ∧
      exec (.adcb src) s =
        .next (((s.afterOpnd8 src).setB (Spec.addByte s.b m s.ccr.c s.ccr).1).setCcr (Spec.addByte s.b m s.ccr.c s.ccr).2)

/-- SBA, SUBA, SUBB, SBCA, SBCB subtract and CBA, CMPA, CMPB compare, with C the borrow and V the signed overflow. The flags are stated over Int (`Spec.subByte`). -/
def Obligations.ByteSubtractions : Prop :=
  ∀ s : State,
    exec .sba s = .next ((s.setA (Spec.subByte s.a s.b false s.ccr).1).setCcr (Spec.subByte s.a s.b false s.ccr).2) ∧
    exec .cba s = .next (s.setCcr (Spec.subByte s.a s.b false s.ccr).2) ∧
    ∀ (src : Src8) (m : Byte), s.opnd8 src = .ok m →
      exec (.suba src) s = .next (((s.afterOpnd8 src).setA (Spec.subByte s.a m false s.ccr).1).setCcr (Spec.subByte s.a m false s.ccr).2) ∧
      exec (.subb src) s = .next (((s.afterOpnd8 src).setB (Spec.subByte s.b m false s.ccr).1).setCcr (Spec.subByte s.b m false s.ccr).2) ∧
      exec (.sbca src) s =
        .next (((s.afterOpnd8 src).setA (Spec.subByte s.a m s.ccr.c s.ccr).1).setCcr (Spec.subByte s.a m s.ccr.c s.ccr).2) ∧
      exec (.sbcb src) s =
        .next (((s.afterOpnd8 src).setB (Spec.subByte s.b m s.ccr.c s.ccr).1).setCcr (Spec.subByte s.b m s.ccr.c s.ccr).2) ∧
      exec (.cmpa src) s = .next ((s.afterOpnd8 src).setCcr (Spec.subByte s.a m false s.ccr).2) ∧
      exec (.cmpb src) s = .next ((s.afterOpnd8 src).setCcr (Spec.subByte s.b m false s.ccr).2)

/-- ADDD and SUBD add and subtract words and CPD, CPX, CPY compare them, with the flags of the exact result. D is A:B. -/
def Obligations.WordArithmetic : Prop :=
  ∀ (s : State) (src : Src16) (m : Word), s.opnd16 src = .ok m →
    exec (.addd src) s = .next (((s.afterOpnd16 src).setD (Spec.addWord s.d m s.ccr).1).setCcr (Spec.addWord s.d m s.ccr).2) ∧
    exec (.subd src) s = .next (((s.afterOpnd16 src).setD (Spec.subWord s.d m s.ccr).1).setCcr (Spec.subWord s.d m s.ccr).2) ∧
    exec (.cpd src) s = .next ((s.afterOpnd16 src).setCcr (Spec.subWord s.d m s.ccr).2) ∧
    exec (.cpx src) s = .next ((s.afterOpnd16 src).setCcr (Spec.subWord s.ix m s.ccr).2) ∧
    exec (.cpy src) s = .next ((s.afterOpnd16 src).setCcr (Spec.subWord s.iy m s.ccr).2)

/-- INC and DEC on A, B and memory add and subtract 1 with V at the sign boundary and C kept. 10_state.md R45. The byte at M is read once and written once (`State.afterRead`, `State.stored`; 20_memory.md R88): ROM keeps its value and the flags change. -/
def Obligations.IncrementDecrement : Prop :=
  ∀ s : State,
    exec .inca s = .next ((s.setA (Spec.incByte s.a s.ccr).1).setCcr (Spec.incByte s.a s.ccr).2) ∧
    exec .incb s = .next ((s.setB (Spec.incByte s.b s.ccr).1).setCcr (Spec.incByte s.b s.ccr).2) ∧
    exec .deca s = .next ((s.setA (Spec.decByte s.a s.ccr).1).setCcr (Spec.decByte s.a s.ccr).2) ∧
    exec .decb s = .next ((s.setB (Spec.decByte s.b s.ccr).1).setCcr (Spec.decByte s.b s.ccr).2) ∧
    (∀ (m : Addr) (v : Byte), s.read8 (s.ea m) = .ok v →
      exec (.inc m) s =
        .next (((s.afterRead (s.ea m)).stored (s.ea m) (Spec.incByte v s.ccr).1).setCcr (Spec.incByte v s.ccr).2) ∧
      exec (.dec m) s =
        .next (((s.afterRead (s.ea m)).stored (s.ea m) (Spec.decByte v s.ccr).1).setCcr (Spec.decByte v s.ccr).2)) ∧
    ∀ v : Byte, (Spec.incByte v s.ccr).2.v = (v == 0x7F) ∧ (Spec.decByte v s.ccr).2.v = (v == 0x80)

/-- NEG and COM on A, B and memory give 0 - v and $FF - v with the flags of R46; NEG is the subtraction from 0. 10_state.md R46. The byte at M is read once and written once (`State.afterRead`, `State.stored`; 20_memory.md R88): ROM keeps its value and the flags change. -/
def Obligations.NegateComplement : Prop :=
  ∀ s : State,
    exec .nega s = .next ((s.setA (Spec.negByte s.a s.ccr).1).setCcr (Spec.negByte s.a s.ccr).2) ∧
    exec .negb s = .next ((s.setB (Spec.negByte s.b s.ccr).1).setCcr (Spec.negByte s.b s.ccr).2) ∧
    exec .coma s = .next ((s.setA (Spec.comByte s.a s.ccr).1).setCcr (Spec.comByte s.a s.ccr).2) ∧
    exec .comb s = .next ((s.setB (Spec.comByte s.b s.ccr).1).setCcr (Spec.comByte s.b s.ccr).2) ∧
    (∀ (m : Addr) (v : Byte), s.read8 (s.ea m) = .ok v →
      exec (.neg m) s =
        .next (((s.afterRead (s.ea m)).stored (s.ea m) (Spec.negByte v s.ccr).1).setCcr (Spec.negByte v s.ccr).2) ∧
      exec (.com m) s =
        .next (((s.afterRead (s.ea m)).stored (s.ea m) (Spec.comByte v s.ccr).1).setCcr (Spec.comByte v s.ccr).2)) ∧
    ∀ v : Byte, (Spec.negByte v s.ccr).2.v = ((Spec.negByte v s.ccr).1 == 0x80) ∧
      (Spec.negByte v s.ccr).2.c = ((Spec.negByte v s.ccr).1 != 0) ∧ Spec.negByte v s.ccr = Spec.subByte 0 v false s.ccr ∧
      (Spec.comByte v s.ccr).1 = ~~~v

/-- ABX and ABY add B unsigned with no flag; INX, INY, DEX, DEY step the index and write Z alone. B is never negative. -/
def Obligations.IndexArithmetic : Prop :=
  ∀ s : State,
    exec .abx s = .next (s.setIx (BitVec.ofNat 16 (s.ix.toNat + s.b.toNat))) ∧
    exec .aby s = .next (s.setIy (BitVec.ofNat 16 (s.iy.toNat + s.b.toNat))) ∧
    exec .inx s = .next ((s.setIx (s.ix + 1)).setCcr { s.ccr with z := decide (s.ix.toNat = 65535) }) ∧
    exec .iny s = .next ((s.setIy (s.iy + 1)).setCcr { s.ccr with z := decide (s.iy.toNat = 65535) }) ∧
    exec .dex s = .next ((s.setIx (s.ix - 1)).setCcr { s.ccr with z := decide (s.ix.toNat = 1) }) ∧
    exec .dey s = .next ((s.setIy (s.iy - 1)).setCcr { s.ccr with z := decide (s.iy.toNat = 1) })

/-- DAA adds its two corrections, keeps or sets C, keeps H, and leaves V free. For every value of the draw counter, and so for every free bit (log 5). -/
def Obligations.DecimalAdjust : Prop :=
  ∀ s : State, s.params.daaDomain = .total →
    let low := s.a.toNat % 16 > 9 ∨ s.ccr.h = true
    let high := s.a.toNat > 0x99 ∨ s.ccr.c = true
    let r : Byte := BitVec.ofNat 8 (s.a.toNat + (if low then 0x06 else 0) + (if high then 0x60 else 0))
    exec .daa s = .next (((s.setA r).setCcr
      { Spec.signZero8 r s.ccr with v := Config.freeBit s.draws, c := decide high }).setDraws (s.draws + 1))

/-- ADCA of two packed-BCD numbers followed by DAA gives their decimal sum and carry. What DAA is for. -/
def Obligations.DecimalAdjustIsDecimal : Prop :=
  ∀ (s : State) (src : Src8) (p q : Nat), p < 100 → q < 100 → s.a = Spec.bcd p → s.opnd8 src = .ok (Spec.bcd q) →
    ∃ t u, exec (.adca src) s = .next t ∧ exec .daa t = .next u ∧
      u.a = Spec.bcd ((p + q + s.ccr.c.toNat) % 100) ∧ u.ccr.c = decide (100 ≤ p + q + s.ccr.c.toNat)

/-- With DaaDomain set to refuse, DAA is refused exactly on the states that no BCD addition produces. The closed form in the model is DEDUCED (log 11); this says it is the right one. -/
def Obligations.DecimalAdjustDomain : Prop :=
  ∀ s : State, s.params.daaDomain = .refuse →
    (¬ Spec.FromBcdSum s.a s.ccr.h s.ccr.c → exec .daa s = .refused .daaOutsideDomain) ∧
    (Spec.FromBcdSum s.a s.ccr.h s.ccr.c → ∃ t, exec .daa s = .next t)

/-- MUL, IDIV and FDIV give product, quotients and remainders, with free remainders where the divisor is too small. For every value of the draw counter, and so for every free word (log 5). -/
def Obligations.MultiplyDivide : Prop :=
  ∀ s : State,
    exec .mul s = .next ((s.setD (BitVec.ofNat 16 (s.a.toNat * s.b.toNat))).setCcr
      { s.ccr with c := decide (s.a.toNat * s.b.toNat / 128 % 2 = 1) }) ∧
    (s.ix ≠ 0 → exec .idiv s = .next (((s.setIx (BitVec.ofNat 16 (s.d.toNat / s.ix.toNat))).setD
      (BitVec.ofNat 16 (s.d.toNat % s.ix.toNat))).setCcr
        { s.ccr with z := decide (s.d.toNat < s.ix.toNat), v := false, c := false })) ∧
    (s.ix = 0 → exec .idiv s = .next ((((s.setIx 0xFFFF).setD (Config.freeWord s.draws)).setCcr
      { s.ccr with z := false, v := false, c := true }).setDraws (s.draws + 1))) ∧
    (s.d.toNat < s.ix.toNat → exec .fdiv s = .next (((s.setIx (BitVec.ofNat 16 (s.d.toNat * 65536 / s.ix.toNat))).setD
      (BitVec.ofNat 16 (s.d.toNat * 65536 % s.ix.toNat))).setCcr
        { s.ccr with z := decide (s.d = 0), v := false, c := false })) ∧
    (s.ix.toNat ≤ s.d.toNat → exec .fdiv s = .next ((((s.setIx 0xFFFF).setD (Config.freeWord s.draws)).setCcr
      { s.ccr with z := false, v := true, c := decide (s.ix = 0) }).setDraws (s.draws + 1)))

/-- Quotient times divisor plus remainder is the dividend, with the remainder below the divisor. Unsigned. -/
def Obligations.DivisionIdentity : Prop :=
  ∀ s t : State,
    (exec .idiv s = .next t → s.ix ≠ 0 →
      t.ix.toNat * s.ix.toNat + t.d.toNat = s.d.toNat ∧ t.d.toNat < s.ix.toNat) ∧
    (exec .fdiv s = .next t → s.d.toNat < s.ix.toNat →
      t.ix.toNat * s.ix.toNat + t.d.toNat = s.d.toNat * 65536 ∧ t.d.toNat < s.ix.toNat)

/-- AND, EOR and OR combine the operand into the accumulator bit by bit; BIT sets the flags of AND alone. Both accumulators. -/
def Obligations.Logic : Prop :=
  ∀ (s : State) (src : Src8) (m : Byte), s.opnd8 src = .ok m →
    exec (.anda src) s = .next (((s.afterOpnd8 src).setA (s.a &&& m)).setCcr (Spec.moved8 (s.a &&& m) s.ccr)) ∧
    exec (.andb src) s = .next (((s.afterOpnd8 src).setB (s.b &&& m)).setCcr (Spec.moved8 (s.b &&& m) s.ccr)) ∧
    exec (.bita src) s = .next ((s.afterOpnd8 src).setCcr (Spec.moved8 (s.a &&& m) s.ccr)) ∧
    exec (.bitb src) s = .next ((s.afterOpnd8 src).setCcr (Spec.moved8 (s.b &&& m) s.ccr)) ∧
    exec (.eora src) s = .next (((s.afterOpnd8 src).setA (s.a ^^^ m)).setCcr (Spec.moved8 (s.a ^^^ m) s.ccr)) ∧
    exec (.eorb src) s = .next (((s.afterOpnd8 src).setB (s.b ^^^ m)).setCcr (Spec.moved8 (s.b ^^^ m) s.ccr)) ∧
    exec (.oraa src) s = .next (((s.afterOpnd8 src).setA (s.a ||| m)).setCcr (Spec.moved8 (s.a ||| m) s.ccr)) ∧
    exec (.orab src) s = .next (((s.afterOpnd8 src).setB (s.b ||| m)).setCcr (Spec.moved8 (s.b ||| m) s.ccr))

/-- BCLR clears and BSET sets exactly the bits of the byte at M that the mask selects. The overbar lost in the source is restored (90_conflicts.md C4). -/
def Obligations.BitSetAndClear : Prop :=
  ∀ (s : State) (m : Addr) (mm v : Byte), s.read8 (s.ea m) = .ok v →
    (∃ r, exec (.bclr m mm) s = .next (((s.afterRead (s.ea m)).stored (s.ea m) r).setCcr (Spec.moved8 r s.ccr)) ∧
      ∀ k < 8, r.getLsbD k = (v.getLsbD k && !mm.getLsbD k)) ∧
    (∃ r, exec (.bset m mm) s = .next (((s.afterRead (s.ea m)).stored (s.ea m) r).setCcr (Spec.moved8 r s.ccr)) ∧
      ∀ k < 8, r.getLsbD k = (v.getLsbD k || mm.getLsbD k))

/-- The shifts and rotates of A, B and D double or halve the value, with C the bit shifted out and V = N xor C. Stated as arithmetic on the byte or word; D is A:B. -/
def Obligations.RegisterShifts : Prop :=
  ∀ s : State,
    exec .asla s = .next ((s.setA (Spec.aslByte s.a s.ccr).1).setCcr (Spec.aslByte s.a s.ccr).2) ∧
    exec .aslb s = .next ((s.setB (Spec.aslByte s.b s.ccr).1).setCcr (Spec.aslByte s.b s.ccr).2) ∧
    exec .lsla s = .next ((s.setA (Spec.aslByte s.a s.ccr).1).setCcr (Spec.aslByte s.a s.ccr).2) ∧
    exec .lslb s = .next ((s.setB (Spec.aslByte s.b s.ccr).1).setCcr (Spec.aslByte s.b s.ccr).2) ∧
    exec .asra s = .next ((s.setA (Spec.asrByte s.a s.ccr).1).setCcr (Spec.asrByte s.a s.ccr).2) ∧
    exec .asrb s = .next ((s.setB (Spec.asrByte s.b s.ccr).1).setCcr (Spec.asrByte s.b s.ccr).2) ∧
    exec .lsra s = .next ((s.setA (Spec.lsrByte s.a s.ccr).1).setCcr (Spec.lsrByte s.a s.ccr).2) ∧
    exec .lsrb s = .next ((s.setB (Spec.lsrByte s.b s.ccr).1).setCcr (Spec.lsrByte s.b s.ccr).2) ∧
    exec .rola s = .next ((s.setA (Spec.rolByte s.a s.ccr).1).setCcr (Spec.rolByte s.a s.ccr).2) ∧
    exec .rolb s = .next ((s.setB (Spec.rolByte s.b s.ccr).1).setCcr (Spec.rolByte s.b s.ccr).2) ∧
    exec .rora s = .next ((s.setA (Spec.rorByte s.a s.ccr).1).setCcr (Spec.rorByte s.a s.ccr).2) ∧
    exec .rorb s = .next ((s.setB (Spec.rorByte s.b s.ccr).1).setCcr (Spec.rorByte s.b s.ccr).2) ∧
    exec .asld s = .next ((s.setD (Spec.aslWord s.d s.ccr).1).setCcr (Spec.aslWord s.d s.ccr).2) ∧
    exec .lsld s = .next ((s.setD (Spec.aslWord s.d s.ccr).1).setCcr (Spec.aslWord s.d s.ccr).2) ∧
    exec .lsrd s = .next ((s.setD (Spec.lsrWord s.d s.ccr).1).setCcr (Spec.lsrWord s.d s.ccr).2)

/-- The shifts and rotates of a memory byte do to it what those of an accumulator do. Stated as arithmetic on the byte. -/
def Obligations.MemoryShifts : Prop :=
  ∀ (s : State) (m : Addr) (v : Byte), s.read8 (s.ea m) = .ok v →
      exec (.asl m) s =
        .next (((s.afterRead (s.ea m)).stored (s.ea m) (Spec.aslByte v s.ccr).1).setCcr (Spec.aslByte v s.ccr).2) ∧
      exec (.lsl m) s =
        .next (((s.afterRead (s.ea m)).stored (s.ea m) (Spec.aslByte v s.ccr).1).setCcr (Spec.aslByte v s.ccr).2) ∧
      exec (.asr m) s =
        .next (((s.afterRead (s.ea m)).stored (s.ea m) (Spec.asrByte v s.ccr).1).setCcr (Spec.asrByte v s.ccr).2) ∧
      exec (.lsr m) s =
        .next (((s.afterRead (s.ea m)).stored (s.ea m) (Spec.lsrByte v s.ccr).1).setCcr (Spec.lsrByte v s.ccr).2) ∧
      exec (.rol m) s =
        .next (((s.afterRead (s.ea m)).stored (s.ea m) (Spec.rolByte v s.ccr).1).setCcr (Spec.rolByte v s.ccr).2) ∧
      exec (.ror m) s =
        .next (((s.afterRead (s.ea m)).stored (s.ea m) (Spec.rorByte v s.ccr).1).setCcr (Spec.rorByte v s.ccr).2)

/-- Nine rotates of an accumulator, left or right, restore it and C. "Nine ROLs restore the byte and C." -/
def Obligations.NineRotates : Prop :=
  ∀ s : State, ∀ i ∈ [Instr.rola, .rolb, .rora, .rorb],
    ∃ t, execTimes 9 i s = .next t ∧ t.a = s.a ∧ t.b = s.b ∧ t.ccr.c = s.ccr.c

/-- Each of the eighteen relative branches is taken exactly under its condition and changes PC alone. The conditions of the Boolean Expression column. -/
def Obligations.Branches : Prop :=
  ∀ s : State,
    Spec.TakenWhen s .bcc (s.ccr.c = false) ∧
    Spec.TakenWhen s .bcs (s.ccr.c = true) ∧
    Spec.TakenWhen s .beq (s.ccr.z = true) ∧
    Spec.TakenWhen s .bge (s.ccr.n = s.ccr.v) ∧
    Spec.TakenWhen s .bgt (s.ccr.z = false ∧ s.ccr.n = s.ccr.v) ∧
    Spec.TakenWhen s .bhi (s.ccr.c = false ∧ s.ccr.z = false) ∧
    Spec.TakenWhen s .bhs (s.ccr.c = false) ∧
    Spec.TakenWhen s .ble (s.ccr.z = true ∨ s.ccr.n ≠ s.ccr.v) ∧
    Spec.TakenWhen s .blo (s.ccr.c = true) ∧
    Spec.TakenWhen s .bls (s.ccr.c = true ∨ s.ccr.z = true) ∧
    Spec.TakenWhen s .blt (s.ccr.n ≠ s.ccr.v) ∧
    Spec.TakenWhen s .bmi (s.ccr.n = true) ∧
    Spec.TakenWhen s .bne (s.ccr.z = false) ∧
    Spec.TakenWhen s .bpl (s.ccr.n = false) ∧
    Spec.TakenWhen s .bra (True) ∧
    Spec.TakenWhen s .brn (False) ∧
    Spec.TakenWhen s .bvc (s.ccr.v = false) ∧
    Spec.TakenWhen s .bvs (s.ccr.v = true)

/-- After CMPA or CPX the branches order the operands as their names say, unsigned and signed. 46_branch.md R360 (f). -/
def Obligations.BranchesAfterCompare : Prop :=
  (∀ (s u : State) (src : Src8) (m : Byte), s.opnd8 src = .ok m → exec (.cmpa src) s = .next u →
    Spec.TakenWhen u .beq (s.a = m) ∧
    Spec.TakenWhen u .bne (s.a ≠ m) ∧
    Spec.TakenWhen u .bhi (s.a.toNat > m.toNat) ∧
    Spec.TakenWhen u .bhs (s.a.toNat ≥ m.toNat) ∧
    Spec.TakenWhen u .blo (s.a.toNat < m.toNat) ∧
    Spec.TakenWhen u .bls (s.a.toNat ≤ m.toNat) ∧
    Spec.TakenWhen u .bgt (s.a.toInt > m.toInt) ∧
    Spec.TakenWhen u .bge (s.a.toInt ≥ m.toInt) ∧
    Spec.TakenWhen u .blt (s.a.toInt < m.toInt) ∧
    Spec.TakenWhen u .ble (s.a.toInt ≤ m.toInt)) ∧
  (∀ (s u : State) (src : Src16) (m : Word), s.opnd16 src = .ok m → exec (.cpx src) s = .next u →
    Spec.TakenWhen u .beq (s.ix = m) ∧
    Spec.TakenWhen u .bne (s.ix ≠ m) ∧
    Spec.TakenWhen u .bhi (s.ix.toNat > m.toNat) ∧
    Spec.TakenWhen u .bhs (s.ix.toNat ≥ m.toNat) ∧
    Spec.TakenWhen u .blo (s.ix.toNat < m.toNat) ∧
    Spec.TakenWhen u .bls (s.ix.toNat ≤ m.toNat) ∧
    Spec.TakenWhen u .bgt (s.ix.toInt > m.toInt) ∧
    Spec.TakenWhen u .bge (s.ix.toInt ≥ m.toInt) ∧
    Spec.TakenWhen u .blt (s.ix.toInt < m.toInt) ∧
    Spec.TakenWhen u .ble (s.ix.toInt ≤ m.toInt))

/-- The branches come in nine complementary pairs, and BRCLR and BRSET on one bit are a tenth. 46_branch.md R360 (e). -/
def Obligations.ComplementaryBranches : Prop :=
  ∀ s : State,
    Spec.Complementary s .bcc .bcs ∧
    Spec.Complementary s .beq .bne ∧
    Spec.Complementary s .bge .blt ∧
    Spec.Complementary s .bgt .ble ∧
    Spec.Complementary s .bhi .bls ∧
    Spec.Complementary s .bhs .blo ∧
    Spec.Complementary s .bmi .bpl ∧
    Spec.Complementary s .bra .brn ∧
    Spec.Complementary s .bvc .bvs ∧
    ∀ (m : Addr) (v : Byte) (k : Nat), k < 8 → s.read8 (s.ea m) = .ok v →
      Spec.ComplementaryAfter s (s.afterRead (s.ea m)) (.brclr m (BitVec.ofNat 8 (2 ^ k))) (.brset m (BitVec.ofNat 8 (2 ^ k)))

/-- BRCLR branches when every selected bit is 0 and BRSET when every selected bit is 1. The overbar lost in the source is restored (90_conflicts.md C3). -/
def Obligations.BitBranches : Prop :=
  ∀ (s : State) (m : Addr) (mm v : Byte), s.read8 (s.ea m) = .ok v →
    Spec.TakenAfter s (s.afterRead (s.ea m)) (.brclr m mm) (∀ k < 8, mm.getLsbD k = true → v.getLsbD k = false) ∧
    Spec.TakenAfter s (s.afterRead (s.ea m)) (.brset m mm) (∀ k < 8, mm.getLsbD k = true → v.getLsbD k = true)

/-- JMP, JSR, BSR and RTS move PC as their rules say, the calls pushing the address of the next instruction. The target is computed before the pushes. What ROM, nothing and a device do with them is `State.stored` (logs 12 and 26). -/
def Obligations.JumpsAndReturns : Prop :=
  ∀ s : State,
    (∀ m, exec (.jmp m) s = .next (s.setPc (s.ea m))) ∧
    (∀ m, exec (.jsr m) s = .next ((s.pushed16 s.pc).setPc (s.ea m))) ∧
    (∀ rr, exec (.bsr rr) s = .next ((s.pushed16 s.pc).setPc (Spec.branchTarget s.pc rr))) ∧
    (∀ v, s.read16 (s.sp + 1) = .ok v →
      exec .rts s = .next (((s.afterRead16 (s.sp + 1)).setSp (s.sp + 2)).setPc v))

/-- What is pushed on RAM is pulled back with SP as it was, and a call followed by RTS comes back. Any SP, also where it wraps. -/
def Obligations.PushThenPullAndCallThenReturn : Prop :=
  ∀ s : State, s.kind s.sp = .ram →
    (∃ t u, exec .psha s = .next t ∧ exec .pulb t = .next u ∧ u.b = s.a ∧ u.a = s.a ∧ u.sp = s.sp ∧ u.ccr = s.ccr) ∧
    (s.kind (s.sp - 1) = .ram →
      (∃ t u, exec .pshx s = .next t ∧ t.read16 (t.sp + 1) = .ok s.ix ∧ exec .puly t = .next u ∧ u.iy = s.ix ∧
        u.ix = s.ix ∧ u.sp = s.sp ∧ u.ccr = s.ccr) ∧
      ∀ i : Instr, (∃ m, i = .jsr m) ∨ (∃ rr, i = .bsr rr) →
        ∃ t u, exec i s = .next t ∧ exec .rts t = .next u ∧ u.pc = s.pc ∧ u.sp = s.sp ∧ u.a = s.a ∧ u.b = s.b ∧
          u.ix = s.ix ∧ u.iy = s.iy ∧ u.ccr = s.ccr ∧ u.read16 (s.sp - 1) = .ok s.pc)

/-- CLC, CLI, CLV, SEC, SEI, SEV change one flag, TPA copies CCR to A, NOP does nothing. IDelay has been cleared by the step before CLI runs. -/
def Obligations.FlagInstructions : Prop :=
  ∀ s : State,
    exec .clc s = .next (s.setCcr { s.ccr with c := false }) ∧ exec .sec s = .next (s.setCcr { s.ccr with c := true }) ∧
    exec .clv s = .next (s.setCcr { s.ccr with v := false }) ∧ exec .sev s = .next (s.setCcr { s.ccr with v := true }) ∧
    exec .sei s = .next (s.setCcr { s.ccr with i := true }) ∧
    exec .cli s = .next ((s.setIDelay s.ccr.i).setCcr { s.ccr with i := false }) ∧ exec .nop s = .next s ∧
    ∃ v : Byte, exec .tpa s = .next (s.setA v) ∧ v.getLsbD 7 = s.ccr.s ∧ v.getLsbD 6 = s.ccr.x ∧
      v.getLsbD 5 = s.ccr.h ∧ v.getLsbD 4 = s.ccr.i ∧ v.getLsbD 3 = s.ccr.n ∧ v.getLsbD 2 = s.ccr.z ∧
      v.getLsbD 1 = s.ccr.v ∧ v.getLsbD 0 = s.ccr.c

/-- TAP and RTI load CCR from a byte: seven bits from it, X to the old X and bit 6. 10_state.md R47: the byte is A for TAP and the first byte pulled for RTI. -/
def Obligations.LoadingTheConditionCodes : Prop :=
  ∀ s : State,
    exec .tap s = .next ((s.setIDelay (s.ccr.i && !s.a.getLsbD 4)).setCcr
      { s := s.a.getLsbD 7, x := s.ccr.x && s.a.getLsbD 6, h := s.a.getLsbD 5, i := s.a.getLsbD 4, n := s.a.getLsbD 3,
        z := s.a.getLsbD 2, v := s.a.getLsbD 1, c := s.a.getLsbD 0 }) ∧
    ∀ f b a xh xl yh yl ph pl : Byte,
      (∀ (k : Nat) (h : k < 9), s.readNth (s.sp + 1) k = .ok [f, b, a, xh, xl, yh, yl, ph, pl][k]) →
      exec .rti s = .next (((((((s.afterReads (s.sp + 1) 9).setSp (s.sp + 9)).setB b).setA a).setIx
        (joinBytes xh xl)).setIy (joinBytes yh yl)).setPc (joinBytes ph pl) |>.setCcr
      { s := f.getLsbD 7, x := s.ccr.x && f.getLsbD 6, h := f.getLsbD 5, i := f.getLsbD 4, n := f.getLsbD 3,
        z := f.getLsbD 2, v := f.getLsbD 1, c := f.getLsbD 0 })

/-- TEST is refused outside test modes; in one it goes on without end until a reset. TestMode is false at reset, as 00_scope.md R6 has it, and the refusal is R414's. The run state testing under TestMode = true (the second and third clauses) is the model's choice, which 10_state.md R52 leaves out (DESIGN CHOICE, log 10). -/
def Obligations.TestInstruction : Prop :=
  ∀ s : State,
    (s.params.testMode = false → exec .test s = .refused .testOutsideTestModes) ∧
    (s.params.testMode = true → exec .test s = .next (s.setRunState .testing)) ∧
    (s.runState = .testing → s.presentedReset = none → step s = .next s.present)
end

