-- ==== Sys2Proof/Laws/Bits.lean ====
section
/-! SUPPORT. The laws of taking words apart and putting them together, and of the condition code register as a byte. -/

namespace Sys2Proof.Machine

@[simp] theorem joinBytes_toNat (h l : Byte) : (joinBytes h l).toNat = h.toNat * 256 + l.toNat := by
  have := h.isLt
  have := l.isLt
  simp only [joinBytes, BitVec.toNat_ofNat]
  omega

@[simp] theorem hiByte_toNat (v : Word) : (hiByte v).toNat = v.toNat / 256 := by
  have := v.isLt
  simp only [hiByte, BitVec.toNat_ofNat]
  omega

@[simp] theorem loByte_toNat (v : Word) : (loByte v).toNat = v.toNat % 256 := by simp [loByte]

@[simp] theorem hiByte_joinBytes (h l : Byte) : hiByte (joinBytes h l) = h := by
  have := l.isLt
  apply BitVec.eq_of_toNat_eq
  simp only [hiByte_toNat, joinBytes_toNat]
  omega

@[simp] theorem loByte_joinBytes (h l : Byte) : loByte (joinBytes h l) = l := by
  have := l.isLt
  apply BitVec.eq_of_toNat_eq
  simp only [loByte_toNat, joinBytes_toNat]
  omega

@[simp] theorem joinBytes_split (v : Word) : joinBytes (hiByte v) (loByte v) = v := by
  apply BitVec.eq_of_toNat_eq
  simp only [joinBytes_toNat, hiByte_toNat, loByte_toNat]
  omega

/-- Each bit of the byte is the flag that 10_state.md R28 puts there. -/
theorem CCR.toByte_bits (f : CCR) :
    f.toByte.getLsbD 7 = f.s ∧ f.toByte.getLsbD 6 = f.x ∧ f.toByte.getLsbD 5 = f.h ∧ f.toByte.getLsbD 4 = f.i ∧
      f.toByte.getLsbD 3 = f.n ∧ f.toByte.getLsbD 2 = f.z ∧ f.toByte.getLsbD 1 = f.v ∧ f.toByte.getLsbD 0 = f.c := by
  obtain ⟨s, x, h, i, n, z, v, c⟩ := f
  cases s <;> cases x <;> cases h <;> cases i <;> cases n <;> cases z <;> cases v <;> cases c <;> decide

/-- Loading the byte of a register gives that register, but for X, which is kept down by the old X (10_state.md R47). -/
theorem CCR.load_toByte (f g : CCR) : f.load g.toByte = { g with x := f.x && g.x } := by
  obtain ⟨h7, h6, h5, h4, h3, h2, h1, h0⟩ := g.toByte_bits
  simp only [CCR.load, h7, h6, h5, h4, h3, h2, h1, h0]

end Sys2Proof.Machine
end

