-- ==== Sys2Proof/Laws/Memory.lean ====
section
/-! SUPPORT. The laws of memory: a read after a write, the canonical form is kept, and canonical memories that read the
same are equal. -/

namespace Sys2Proof.Machine

@[simp] theorem Memory.read_nil (a : Nat) : Memory.read [] a = none := rfl

theorem Memory.read_cons (k : Nat) (v : Byte) (rest : Memory) (a : Nat) :
    Memory.read ((k, v) :: rest) a = if a = k then some v else Memory.read rest a := rfl

/-- A read of the address just written gives the byte written. -/
@[simp] theorem Memory.read_write_same (m : Memory) (a : Nat) (b : Byte) : (Memory.write m a b).read a = some b := by
  induction m with
  | nil => simp [Memory.write, Memory.read_cons]
  | cons e rest ih =>
      obtain ⟨k, v⟩ := e
      by_cases h1 : a = k
      · simp [Memory.write, h1, Memory.read_cons]
      · by_cases h2 : a < k
        · simp [Memory.write, h1, h2, Memory.read_cons]
        · simp [Memory.write, h1, h2, Memory.read_cons, ih]

/-- A write leaves every other address alone. -/
theorem Memory.read_write_other (m : Memory) {a x : Nat} (h : x ≠ a) (b : Byte) :
    (Memory.write m a b).read x = Memory.read m x := by
  induction m with
  | nil => simp [Memory.write, Memory.read_cons, h]
  | cons e rest ih =>
      obtain ⟨k, v⟩ := e
      by_cases h1 : a = k
      · subst h1; simp [Memory.write, Memory.read_cons, h]
      · by_cases h2 : a < k
        · simp [Memory.write, h1, h2, Memory.read_cons, h]
        · simp [Memory.write, h1, h2, Memory.read_cons, ih]

theorem Memory.risesFrom_cons {lo k : Nat} {v : Byte} {rest : Memory} :
    Memory.risesFrom lo ((k, v) :: rest) = true ↔ lo ≤ k ∧ k < 65536 ∧ Memory.risesFrom (k + 1) rest = true := by
  simp [Memory.risesFrom, and_assoc]

theorem Memory.risesFrom_mono {lo lo' : Nat} {m : Memory} (h : lo' ≤ lo) (hm : Memory.risesFrom lo m = true) :
    Memory.risesFrom lo' m = true := by
  cases m with
  | nil => rfl
  | cons e rest =>
      obtain ⟨k, v⟩ := e
      obtain ⟨h1, h2, h3⟩ := Memory.risesFrom_cons.1 hm
      exact Memory.risesFrom_cons.2 ⟨le_trans h h1, h2, h3⟩

theorem Memory.risesFrom_write {lo a : Nat} {m : Memory} {b : Byte} (ha : lo ≤ a) (h : a < 65536)
    (hm : Memory.risesFrom lo m = true) : Memory.risesFrom lo (Memory.write m a b) = true := by
  induction m generalizing lo with
  | nil => exact Memory.risesFrom_cons.2 ⟨ha, h, rfl⟩
  | cons e rest ih =>
      obtain ⟨k, v⟩ := e
      obtain ⟨h1, h2, h3⟩ := Memory.risesFrom_cons.1 hm
      by_cases e1 : a = k
      · subst e1; simp only [Memory.write, if_pos]; exact Memory.risesFrom_cons.2 ⟨ha, h, h3⟩
      · by_cases e2 : a < k
        · simp only [Memory.write, if_neg e1, if_pos e2]
          exact Memory.risesFrom_cons.2 ⟨ha, h, Memory.risesFrom_cons.2 ⟨e2, h2, h3⟩⟩
        · simp only [Memory.write, if_neg e1, if_neg e2]
          exact Memory.risesFrom_cons.2 ⟨h1, h2, ih (by omega) h3⟩

/-- A write at an address of the space keeps the canonical form. -/
theorem Memory.wf_write {m : Memory} {a : Nat} {b : Byte} (ha : a < 65536) (hm : Memory.wf m = true) :
    Memory.wf (Memory.write m a b) = true := Memory.risesFrom_write (Nat.zero_le a) ha hm

/-- Nothing below the floor of a rising memory is listed. -/
theorem Memory.read_below {lo a : Nat} {m : Memory} (h : a < lo) (hm : Memory.risesFrom lo m = true) :
    Memory.read m a = none := by
  induction m generalizing lo with
  | nil => rfl
  | cons e rest ih =>
      obtain ⟨k, v⟩ := e
      obtain ⟨h1, _, h3⟩ := Memory.risesFrom_cons.1 hm
      rw [Memory.read_cons, if_neg (by omega)]
      exact ih (by omega) h3

/-- Canonical memories that read the same everywhere are the same list. -/
theorem Memory.eq_of_read_eq {lo : Nat} {m n : Memory} (hm : Memory.risesFrom lo m = true)
    (hn : Memory.risesFrom lo n = true) (h : ∀ a, Memory.read m a = Memory.read n a) : m = n := by
  induction m generalizing lo n with
  | nil =>
      cases n with
      | nil => rfl
      | cons e rest =>
          obtain ⟨k, v⟩ := e
          exact absurd (h k) (by simp [Memory.read_cons])
  | cons e rest ih =>
      obtain ⟨k, v⟩ := e
      obtain ⟨m1, _, m3⟩ := Memory.risesFrom_cons.1 hm
      cases n with
      | nil => exact absurd (h k) (by simp [Memory.read_cons])
      | cons e' rest' =>
          obtain ⟨k', v'⟩ := e'
          obtain ⟨n1, _, n3⟩ := Memory.risesFrom_cons.1 hn
          have hk : k = k' := by
            rcases lt_trichotomy k k' with c | c | c
            · have := h k
              rw [Memory.read_cons, Memory.read_cons, if_pos rfl, if_neg (by omega),
                Memory.read_below (show k < k' + 1 by omega) n3] at this
              exact absurd this (by simp)
            · exact c
            · have := h k'
              rw [Memory.read_cons, Memory.read_cons, if_pos rfl, if_neg (by omega),
                Memory.read_below (show k' < k + 1 by omega) m3] at this
              exact absurd this (by simp)
          subst hk
          have hv : v = v' := by simpa [Memory.read_cons] using h k
          subst hv
          congr 1
          refine ih m3 n3 fun a => ?_
          by_cases e : a = k
          · subst e
            rw [Memory.read_below (Nat.lt_succ_self a) m3, Memory.read_below (Nat.lt_succ_self a) n3]
          · simpa [Memory.read_cons, e] using h a

end Sys2Proof.Machine
end

