-- ==== Sys2Proof/Laws/State.lean ====
section
/-! SUPPORT. One lemma for each field and each update of the state, true by computation, so that no later proof unfolds an
update. -/

namespace Sys2Proof.Machine

variable (s : State)

@[simp] theorem State.setA_a (v : Byte) : (s.setA v).a = v := rfl
@[simp] theorem State.setA_b (v : Byte) : (s.setA v).b = s.b := rfl
@[simp] theorem State.setA_ix (v : Byte) : (s.setA v).ix = s.ix := rfl
@[simp] theorem State.setA_iy (v : Byte) : (s.setA v).iy = s.iy := rfl
@[simp] theorem State.setA_sp (v : Byte) : (s.setA v).sp = s.sp := rfl
@[simp] theorem State.setA_pc (v : Byte) : (s.setA v).pc = s.pc := rfl
@[simp] theorem State.setA_ccr (v : Byte) : (s.setA v).ccr = s.ccr := rfl
@[simp] theorem State.setA_runState (v : Byte) : (s.setA v).runState = s.runState := rfl
@[simp] theorem State.setA_iDelay (v : Byte) : (s.setA v).iDelay = s.iDelay := rfl
@[simp] theorem State.setA_mem (v : Byte) : (s.setA v).mem = s.mem := rfl
@[simp] theorem State.setA_deviceLog (v : Byte) : (s.setA v).deviceLog = s.deviceLog := rfl
@[simp] theorem State.setA_pending (v : Byte) : (s.setA v).pending = s.pending := rfl
@[simp] theorem State.setA_inputs (v : Byte) : (s.setA v).inputs = s.inputs := rfl
@[simp] theorem State.setA_draws (v : Byte) : (s.setA v).draws = s.draws := rfl
@[simp] theorem State.setA_params (v : Byte) : (s.setA v).params = s.params := rfl

@[simp] theorem State.setB_a (v : Byte) : (s.setB v).a = s.a := rfl
@[simp] theorem State.setB_b (v : Byte) : (s.setB v).b = v := rfl
@[simp] theorem State.setB_ix (v : Byte) : (s.setB v).ix = s.ix := rfl
@[simp] theorem State.setB_iy (v : Byte) : (s.setB v).iy = s.iy := rfl
@[simp] theorem State.setB_sp (v : Byte) : (s.setB v).sp = s.sp := rfl
@[simp] theorem State.setB_pc (v : Byte) : (s.setB v).pc = s.pc := rfl
@[simp] theorem State.setB_ccr (v : Byte) : (s.setB v).ccr = s.ccr := rfl
@[simp] theorem State.setB_runState (v : Byte) : (s.setB v).runState = s.runState := rfl
@[simp] theorem State.setB_iDelay (v : Byte) : (s.setB v).iDelay = s.iDelay := rfl
@[simp] theorem State.setB_mem (v : Byte) : (s.setB v).mem = s.mem := rfl
@[simp] theorem State.setB_deviceLog (v : Byte) : (s.setB v).deviceLog = s.deviceLog := rfl
@[simp] theorem State.setB_pending (v : Byte) : (s.setB v).pending = s.pending := rfl
@[simp] theorem State.setB_inputs (v : Byte) : (s.setB v).inputs = s.inputs := rfl
@[simp] theorem State.setB_draws (v : Byte) : (s.setB v).draws = s.draws := rfl
@[simp] theorem State.setB_params (v : Byte) : (s.setB v).params = s.params := rfl

@[simp] theorem State.setIx_a (v : Word) : (s.setIx v).a = s.a := rfl
@[simp] theorem State.setIx_b (v : Word) : (s.setIx v).b = s.b := rfl
@[simp] theorem State.setIx_ix (v : Word) : (s.setIx v).ix = v := rfl
@[simp] theorem State.setIx_iy (v : Word) : (s.setIx v).iy = s.iy := rfl
@[simp] theorem State.setIx_sp (v : Word) : (s.setIx v).sp = s.sp := rfl
@[simp] theorem State.setIx_pc (v : Word) : (s.setIx v).pc = s.pc := rfl
@[simp] theorem State.setIx_ccr (v : Word) : (s.setIx v).ccr = s.ccr := rfl
@[simp] theorem State.setIx_runState (v : Word) : (s.setIx v).runState = s.runState := rfl
@[simp] theorem State.setIx_iDelay (v : Word) : (s.setIx v).iDelay = s.iDelay := rfl
@[simp] theorem State.setIx_mem (v : Word) : (s.setIx v).mem = s.mem := rfl
@[simp] theorem State.setIx_deviceLog (v : Word) : (s.setIx v).deviceLog = s.deviceLog := rfl
@[simp] theorem State.setIx_pending (v : Word) : (s.setIx v).pending = s.pending := rfl
@[simp] theorem State.setIx_inputs (v : Word) : (s.setIx v).inputs = s.inputs := rfl
@[simp] theorem State.setIx_draws (v : Word) : (s.setIx v).draws = s.draws := rfl
@[simp] theorem State.setIx_params (v : Word) : (s.setIx v).params = s.params := rfl

@[simp] theorem State.setIy_a (v : Word) : (s.setIy v).a = s.a := rfl
@[simp] theorem State.setIy_b (v : Word) : (s.setIy v).b = s.b := rfl
@[simp] theorem State.setIy_ix (v : Word) : (s.setIy v).ix = s.ix := rfl
@[simp] theorem State.setIy_iy (v : Word) : (s.setIy v).iy = v := rfl
@[simp] theorem State.setIy_sp (v : Word) : (s.setIy v).sp = s.sp := rfl
@[simp] theorem State.setIy_pc (v : Word) : (s.setIy v).pc = s.pc := rfl
@[simp] theorem State.setIy_ccr (v : Word) : (s.setIy v).ccr = s.ccr := rfl
@[simp] theorem State.setIy_runState (v : Word) : (s.setIy v).runState = s.runState := rfl
@[simp] theorem State.setIy_iDelay (v : Word) : (s.setIy v).iDelay = s.iDelay := rfl
@[simp] theorem State.setIy_mem (v : Word) : (s.setIy v).mem = s.mem := rfl
@[simp] theorem State.setIy_deviceLog (v : Word) : (s.setIy v).deviceLog = s.deviceLog := rfl
@[simp] theorem State.setIy_pending (v : Word) : (s.setIy v).pending = s.pending := rfl
@[simp] theorem State.setIy_inputs (v : Word) : (s.setIy v).inputs = s.inputs := rfl
@[simp] theorem State.setIy_draws (v : Word) : (s.setIy v).draws = s.draws := rfl
@[simp] theorem State.setIy_params (v : Word) : (s.setIy v).params = s.params := rfl

@[simp] theorem State.setSp_a (v : Word) : (s.setSp v).a = s.a := rfl
@[simp] theorem State.setSp_b (v : Word) : (s.setSp v).b = s.b := rfl
@[simp] theorem State.setSp_ix (v : Word) : (s.setSp v).ix = s.ix := rfl
@[simp] theorem State.setSp_iy (v : Word) : (s.setSp v).iy = s.iy := rfl
@[simp] theorem State.setSp_sp (v : Word) : (s.setSp v).sp = v := rfl
@[simp] theorem State.setSp_pc (v : Word) : (s.setSp v).pc = s.pc := rfl
@[simp] theorem State.setSp_ccr (v : Word) : (s.setSp v).ccr = s.ccr := rfl
@[simp] theorem State.setSp_runState (v : Word) : (s.setSp v).runState = s.runState := rfl
@[simp] theorem State.setSp_iDelay (v : Word) : (s.setSp v).iDelay = s.iDelay := rfl
@[simp] theorem State.setSp_mem (v : Word) : (s.setSp v).mem = s.mem := rfl
@[simp] theorem State.setSp_deviceLog (v : Word) : (s.setSp v).deviceLog = s.deviceLog := rfl
@[simp] theorem State.setSp_pending (v : Word) : (s.setSp v).pending = s.pending := rfl
@[simp] theorem State.setSp_inputs (v : Word) : (s.setSp v).inputs = s.inputs := rfl
@[simp] theorem State.setSp_draws (v : Word) : (s.setSp v).draws = s.draws := rfl
@[simp] theorem State.setSp_params (v : Word) : (s.setSp v).params = s.params := rfl

@[simp] theorem State.setPc_a (v : Word) : (s.setPc v).a = s.a := rfl
@[simp] theorem State.setPc_b (v : Word) : (s.setPc v).b = s.b := rfl
@[simp] theorem State.setPc_ix (v : Word) : (s.setPc v).ix = s.ix := rfl
@[simp] theorem State.setPc_iy (v : Word) : (s.setPc v).iy = s.iy := rfl
@[simp] theorem State.setPc_sp (v : Word) : (s.setPc v).sp = s.sp := rfl
@[simp] theorem State.setPc_pc (v : Word) : (s.setPc v).pc = v := rfl
@[simp] theorem State.setPc_ccr (v : Word) : (s.setPc v).ccr = s.ccr := rfl
@[simp] theorem State.setPc_runState (v : Word) : (s.setPc v).runState = s.runState := rfl
@[simp] theorem State.setPc_iDelay (v : Word) : (s.setPc v).iDelay = s.iDelay := rfl
@[simp] theorem State.setPc_mem (v : Word) : (s.setPc v).mem = s.mem := rfl
@[simp] theorem State.setPc_deviceLog (v : Word) : (s.setPc v).deviceLog = s.deviceLog := rfl
@[simp] theorem State.setPc_pending (v : Word) : (s.setPc v).pending = s.pending := rfl
@[simp] theorem State.setPc_inputs (v : Word) : (s.setPc v).inputs = s.inputs := rfl
@[simp] theorem State.setPc_draws (v : Word) : (s.setPc v).draws = s.draws := rfl
@[simp] theorem State.setPc_params (v : Word) : (s.setPc v).params = s.params := rfl

@[simp] theorem State.setCcr_a (v : CCR) : (s.setCcr v).a = s.a := rfl
@[simp] theorem State.setCcr_b (v : CCR) : (s.setCcr v).b = s.b := rfl
@[simp] theorem State.setCcr_ix (v : CCR) : (s.setCcr v).ix = s.ix := rfl
@[simp] theorem State.setCcr_iy (v : CCR) : (s.setCcr v).iy = s.iy := rfl
@[simp] theorem State.setCcr_sp (v : CCR) : (s.setCcr v).sp = s.sp := rfl
@[simp] theorem State.setCcr_pc (v : CCR) : (s.setCcr v).pc = s.pc := rfl
@[simp] theorem State.setCcr_ccr (v : CCR) : (s.setCcr v).ccr = v := rfl
@[simp] theorem State.setCcr_runState (v : CCR) : (s.setCcr v).runState = s.runState := rfl
@[simp] theorem State.setCcr_iDelay (v : CCR) : (s.setCcr v).iDelay = s.iDelay := rfl
@[simp] theorem State.setCcr_mem (v : CCR) : (s.setCcr v).mem = s.mem := rfl
@[simp] theorem State.setCcr_deviceLog (v : CCR) : (s.setCcr v).deviceLog = s.deviceLog := rfl
@[simp] theorem State.setCcr_pending (v : CCR) : (s.setCcr v).pending = s.pending := rfl
@[simp] theorem State.setCcr_inputs (v : CCR) : (s.setCcr v).inputs = s.inputs := rfl
@[simp] theorem State.setCcr_draws (v : CCR) : (s.setCcr v).draws = s.draws := rfl
@[simp] theorem State.setCcr_params (v : CCR) : (s.setCcr v).params = s.params := rfl

@[simp] theorem State.setRunState_a (v : RunState) : (s.setRunState v).a = s.a := rfl
@[simp] theorem State.setRunState_b (v : RunState) : (s.setRunState v).b = s.b := rfl
@[simp] theorem State.setRunState_ix (v : RunState) : (s.setRunState v).ix = s.ix := rfl
@[simp] theorem State.setRunState_iy (v : RunState) : (s.setRunState v).iy = s.iy := rfl
@[simp] theorem State.setRunState_sp (v : RunState) : (s.setRunState v).sp = s.sp := rfl
@[simp] theorem State.setRunState_pc (v : RunState) : (s.setRunState v).pc = s.pc := rfl
@[simp] theorem State.setRunState_ccr (v : RunState) : (s.setRunState v).ccr = s.ccr := rfl
@[simp] theorem State.setRunState_runState (v : RunState) : (s.setRunState v).runState = v := rfl
@[simp] theorem State.setRunState_iDelay (v : RunState) : (s.setRunState v).iDelay = s.iDelay := rfl
@[simp] theorem State.setRunState_mem (v : RunState) : (s.setRunState v).mem = s.mem := rfl
@[simp] theorem State.setRunState_deviceLog (v : RunState) : (s.setRunState v).deviceLog = s.deviceLog := rfl
@[simp] theorem State.setRunState_pending (v : RunState) : (s.setRunState v).pending = s.pending := rfl
@[simp] theorem State.setRunState_inputs (v : RunState) : (s.setRunState v).inputs = s.inputs := rfl
@[simp] theorem State.setRunState_draws (v : RunState) : (s.setRunState v).draws = s.draws := rfl
@[simp] theorem State.setRunState_params (v : RunState) : (s.setRunState v).params = s.params := rfl

@[simp] theorem State.setIDelay_a (v : Bool) : (s.setIDelay v).a = s.a := rfl
@[simp] theorem State.setIDelay_b (v : Bool) : (s.setIDelay v).b = s.b := rfl
@[simp] theorem State.setIDelay_ix (v : Bool) : (s.setIDelay v).ix = s.ix := rfl
@[simp] theorem State.setIDelay_iy (v : Bool) : (s.setIDelay v).iy = s.iy := rfl
@[simp] theorem State.setIDelay_sp (v : Bool) : (s.setIDelay v).sp = s.sp := rfl
@[simp] theorem State.setIDelay_pc (v : Bool) : (s.setIDelay v).pc = s.pc := rfl
@[simp] theorem State.setIDelay_ccr (v : Bool) : (s.setIDelay v).ccr = s.ccr := rfl
@[simp] theorem State.setIDelay_runState (v : Bool) : (s.setIDelay v).runState = s.runState := rfl
@[simp] theorem State.setIDelay_iDelay (v : Bool) : (s.setIDelay v).iDelay = v := rfl
@[simp] theorem State.setIDelay_mem (v : Bool) : (s.setIDelay v).mem = s.mem := rfl
@[simp] theorem State.setIDelay_deviceLog (v : Bool) : (s.setIDelay v).deviceLog = s.deviceLog := rfl
@[simp] theorem State.setIDelay_pending (v : Bool) : (s.setIDelay v).pending = s.pending := rfl
@[simp] theorem State.setIDelay_inputs (v : Bool) : (s.setIDelay v).inputs = s.inputs := rfl
@[simp] theorem State.setIDelay_draws (v : Bool) : (s.setIDelay v).draws = s.draws := rfl
@[simp] theorem State.setIDelay_params (v : Bool) : (s.setIDelay v).params = s.params := rfl

@[simp] theorem State.setMem_a (v : Memory) : (s.setMem v).a = s.a := rfl
@[simp] theorem State.setMem_b (v : Memory) : (s.setMem v).b = s.b := rfl
@[simp] theorem State.setMem_ix (v : Memory) : (s.setMem v).ix = s.ix := rfl
@[simp] theorem State.setMem_iy (v : Memory) : (s.setMem v).iy = s.iy := rfl
@[simp] theorem State.setMem_sp (v : Memory) : (s.setMem v).sp = s.sp := rfl
@[simp] theorem State.setMem_pc (v : Memory) : (s.setMem v).pc = s.pc := rfl
@[simp] theorem State.setMem_ccr (v : Memory) : (s.setMem v).ccr = s.ccr := rfl
@[simp] theorem State.setMem_runState (v : Memory) : (s.setMem v).runState = s.runState := rfl
@[simp] theorem State.setMem_iDelay (v : Memory) : (s.setMem v).iDelay = s.iDelay := rfl
@[simp] theorem State.setMem_mem (v : Memory) : (s.setMem v).mem = v := rfl
@[simp] theorem State.setMem_deviceLog (v : Memory) : (s.setMem v).deviceLog = s.deviceLog := rfl
@[simp] theorem State.setMem_pending (v : Memory) : (s.setMem v).pending = s.pending := rfl
@[simp] theorem State.setMem_inputs (v : Memory) : (s.setMem v).inputs = s.inputs := rfl
@[simp] theorem State.setMem_draws (v : Memory) : (s.setMem v).draws = s.draws := rfl
@[simp] theorem State.setMem_params (v : Memory) : (s.setMem v).params = s.params := rfl

@[simp] theorem State.setDeviceLog_a (v : List Config.DeviceEvent) : (s.setDeviceLog v).a = s.a := rfl
@[simp] theorem State.setDeviceLog_b (v : List Config.DeviceEvent) : (s.setDeviceLog v).b = s.b := rfl
@[simp] theorem State.setDeviceLog_ix (v : List Config.DeviceEvent) : (s.setDeviceLog v).ix = s.ix := rfl
@[simp] theorem State.setDeviceLog_iy (v : List Config.DeviceEvent) : (s.setDeviceLog v).iy = s.iy := rfl
@[simp] theorem State.setDeviceLog_sp (v : List Config.DeviceEvent) : (s.setDeviceLog v).sp = s.sp := rfl
@[simp] theorem State.setDeviceLog_pc (v : List Config.DeviceEvent) : (s.setDeviceLog v).pc = s.pc := rfl
@[simp] theorem State.setDeviceLog_ccr (v : List Config.DeviceEvent) : (s.setDeviceLog v).ccr = s.ccr := rfl
@[simp] theorem State.setDeviceLog_runState (v : List Config.DeviceEvent) : (s.setDeviceLog v).runState = s.runState := rfl
@[simp] theorem State.setDeviceLog_iDelay (v : List Config.DeviceEvent) : (s.setDeviceLog v).iDelay = s.iDelay := rfl
@[simp] theorem State.setDeviceLog_mem (v : List Config.DeviceEvent) : (s.setDeviceLog v).mem = s.mem := rfl
@[simp] theorem State.setDeviceLog_deviceLog (v : List Config.DeviceEvent) : (s.setDeviceLog v).deviceLog = v := rfl
@[simp] theorem State.setDeviceLog_pending (v : List Config.DeviceEvent) : (s.setDeviceLog v).pending = s.pending := rfl
@[simp] theorem State.setDeviceLog_inputs (v : List Config.DeviceEvent) : (s.setDeviceLog v).inputs = s.inputs := rfl
@[simp] theorem State.setDeviceLog_draws (v : List Config.DeviceEvent) : (s.setDeviceLog v).draws = s.draws := rfl
@[simp] theorem State.setDeviceLog_params (v : List Config.DeviceEvent) : (s.setDeviceLog v).params = s.params := rfl

@[simp] theorem State.setPending_a (v : List Config.Source) : (s.setPending v).a = s.a := rfl
@[simp] theorem State.setPending_b (v : List Config.Source) : (s.setPending v).b = s.b := rfl
@[simp] theorem State.setPending_ix (v : List Config.Source) : (s.setPending v).ix = s.ix := rfl
@[simp] theorem State.setPending_iy (v : List Config.Source) : (s.setPending v).iy = s.iy := rfl
@[simp] theorem State.setPending_sp (v : List Config.Source) : (s.setPending v).sp = s.sp := rfl
@[simp] theorem State.setPending_pc (v : List Config.Source) : (s.setPending v).pc = s.pc := rfl
@[simp] theorem State.setPending_ccr (v : List Config.Source) : (s.setPending v).ccr = s.ccr := rfl
@[simp] theorem State.setPending_runState (v : List Config.Source) : (s.setPending v).runState = s.runState := rfl
@[simp] theorem State.setPending_iDelay (v : List Config.Source) : (s.setPending v).iDelay = s.iDelay := rfl
@[simp] theorem State.setPending_mem (v : List Config.Source) : (s.setPending v).mem = s.mem := rfl
@[simp] theorem State.setPending_deviceLog (v : List Config.Source) : (s.setPending v).deviceLog = s.deviceLog := rfl
@[simp] theorem State.setPending_pending (v : List Config.Source) : (s.setPending v).pending = v := rfl
@[simp] theorem State.setPending_inputs (v : List Config.Source) : (s.setPending v).inputs = s.inputs := rfl
@[simp] theorem State.setPending_draws (v : List Config.Source) : (s.setPending v).draws = s.draws := rfl
@[simp] theorem State.setPending_params (v : List Config.Source) : (s.setPending v).params = s.params := rfl

@[simp] theorem State.setInputs_a (v : List Config.EnvInput) : (s.setInputs v).a = s.a := rfl
@[simp] theorem State.setInputs_b (v : List Config.EnvInput) : (s.setInputs v).b = s.b := rfl
@[simp] theorem State.setInputs_ix (v : List Config.EnvInput) : (s.setInputs v).ix = s.ix := rfl
@[simp] theorem State.setInputs_iy (v : List Config.EnvInput) : (s.setInputs v).iy = s.iy := rfl
@[simp] theorem State.setInputs_sp (v : List Config.EnvInput) : (s.setInputs v).sp = s.sp := rfl
@[simp] theorem State.setInputs_pc (v : List Config.EnvInput) : (s.setInputs v).pc = s.pc := rfl
@[simp] theorem State.setInputs_ccr (v : List Config.EnvInput) : (s.setInputs v).ccr = s.ccr := rfl
@[simp] theorem State.setInputs_runState (v : List Config.EnvInput) : (s.setInputs v).runState = s.runState := rfl
@[simp] theorem State.setInputs_iDelay (v : List Config.EnvInput) : (s.setInputs v).iDelay = s.iDelay := rfl
@[simp] theorem State.setInputs_mem (v : List Config.EnvInput) : (s.setInputs v).mem = s.mem := rfl
@[simp] theorem State.setInputs_deviceLog (v : List Config.EnvInput) : (s.setInputs v).deviceLog = s.deviceLog := rfl
@[simp] theorem State.setInputs_pending (v : List Config.EnvInput) : (s.setInputs v).pending = s.pending := rfl
@[simp] theorem State.setInputs_inputs (v : List Config.EnvInput) : (s.setInputs v).inputs = v := rfl
@[simp] theorem State.setInputs_draws (v : List Config.EnvInput) : (s.setInputs v).draws = s.draws := rfl
@[simp] theorem State.setInputs_params (v : List Config.EnvInput) : (s.setInputs v).params = s.params := rfl

@[simp] theorem State.setDraws_a (v : Nat) : (s.setDraws v).a = s.a := rfl
@[simp] theorem State.setDraws_b (v : Nat) : (s.setDraws v).b = s.b := rfl
@[simp] theorem State.setDraws_ix (v : Nat) : (s.setDraws v).ix = s.ix := rfl
@[simp] theorem State.setDraws_iy (v : Nat) : (s.setDraws v).iy = s.iy := rfl
@[simp] theorem State.setDraws_sp (v : Nat) : (s.setDraws v).sp = s.sp := rfl
@[simp] theorem State.setDraws_pc (v : Nat) : (s.setDraws v).pc = s.pc := rfl
@[simp] theorem State.setDraws_ccr (v : Nat) : (s.setDraws v).ccr = s.ccr := rfl
@[simp] theorem State.setDraws_runState (v : Nat) : (s.setDraws v).runState = s.runState := rfl
@[simp] theorem State.setDraws_iDelay (v : Nat) : (s.setDraws v).iDelay = s.iDelay := rfl
@[simp] theorem State.setDraws_mem (v : Nat) : (s.setDraws v).mem = s.mem := rfl
@[simp] theorem State.setDraws_deviceLog (v : Nat) : (s.setDraws v).deviceLog = s.deviceLog := rfl
@[simp] theorem State.setDraws_pending (v : Nat) : (s.setDraws v).pending = s.pending := rfl
@[simp] theorem State.setDraws_inputs (v : Nat) : (s.setDraws v).inputs = s.inputs := rfl
@[simp] theorem State.setDraws_draws (v : Nat) : (s.setDraws v).draws = v := rfl
@[simp] theorem State.setDraws_params (v : Nat) : (s.setDraws v).params = s.params := rfl

@[simp] theorem State.setD_a (v : Word) : (s.setD v).a = hiByte v := rfl
@[simp] theorem State.setD_b (v : Word) : (s.setD v).b = loByte v := rfl
@[simp] theorem State.setD_ix (v : Word) : (s.setD v).ix = s.ix := rfl
@[simp] theorem State.setD_iy (v : Word) : (s.setD v).iy = s.iy := rfl
@[simp] theorem State.setD_sp (v : Word) : (s.setD v).sp = s.sp := rfl
@[simp] theorem State.setD_pc (v : Word) : (s.setD v).pc = s.pc := rfl
@[simp] theorem State.setD_ccr (v : Word) : (s.setD v).ccr = s.ccr := rfl
@[simp] theorem State.setD_runState (v : Word) : (s.setD v).runState = s.runState := rfl
@[simp] theorem State.setD_iDelay (v : Word) : (s.setD v).iDelay = s.iDelay := rfl
@[simp] theorem State.setD_mem (v : Word) : (s.setD v).mem = s.mem := rfl
@[simp] theorem State.setD_deviceLog (v : Word) : (s.setD v).deviceLog = s.deviceLog := rfl
@[simp] theorem State.setD_pending (v : Word) : (s.setD v).pending = s.pending := rfl
@[simp] theorem State.setD_inputs (v : Word) : (s.setD v).inputs = s.inputs := rfl
@[simp] theorem State.setD_draws (v : Word) : (s.setD v).draws = s.draws := rfl
@[simp] theorem State.setD_params (v : Word) : (s.setD v).params = s.params := rfl

@[simp] theorem State.afterDraw_a : s.afterDraw.a = s.a := rfl
@[simp] theorem State.afterDraw_b : s.afterDraw.b = s.b := rfl
@[simp] theorem State.afterDraw_ix : s.afterDraw.ix = s.ix := rfl
@[simp] theorem State.afterDraw_iy : s.afterDraw.iy = s.iy := rfl
@[simp] theorem State.afterDraw_sp : s.afterDraw.sp = s.sp := rfl
@[simp] theorem State.afterDraw_pc : s.afterDraw.pc = s.pc := rfl
@[simp] theorem State.afterDraw_ccr : s.afterDraw.ccr = s.ccr := rfl
@[simp] theorem State.afterDraw_runState : s.afterDraw.runState = s.runState := rfl
@[simp] theorem State.afterDraw_iDelay : s.afterDraw.iDelay = s.iDelay := rfl
@[simp] theorem State.afterDraw_mem : s.afterDraw.mem = s.mem := rfl
@[simp] theorem State.afterDraw_deviceLog : s.afterDraw.deviceLog = s.deviceLog := rfl
@[simp] theorem State.afterDraw_pending : s.afterDraw.pending = s.pending := rfl
@[simp] theorem State.afterDraw_inputs : s.afterDraw.inputs = s.inputs := rfl
@[simp] theorem State.afterDraw_draws : s.afterDraw.draws = s.draws + 1 := rfl
@[simp] theorem State.afterDraw_params : s.afterDraw.params = s.params := rfl

@[simp] theorem State.setAcc_ix (r : Acc) (v : Byte) : (s.setAcc r v).ix = s.ix := by cases r <;> rfl
@[simp] theorem State.setAcc_iy (r : Acc) (v : Byte) : (s.setAcc r v).iy = s.iy := by cases r <;> rfl
@[simp] theorem State.setAcc_sp (r : Acc) (v : Byte) : (s.setAcc r v).sp = s.sp := by cases r <;> rfl
@[simp] theorem State.setAcc_pc (r : Acc) (v : Byte) : (s.setAcc r v).pc = s.pc := by cases r <;> rfl
@[simp] theorem State.setAcc_ccr (r : Acc) (v : Byte) : (s.setAcc r v).ccr = s.ccr := by cases r <;> rfl
@[simp] theorem State.setAcc_runState (r : Acc) (v : Byte) : (s.setAcc r v).runState = s.runState := by cases r <;> rfl
@[simp] theorem State.setAcc_iDelay (r : Acc) (v : Byte) : (s.setAcc r v).iDelay = s.iDelay := by cases r <;> rfl
@[simp] theorem State.setAcc_mem (r : Acc) (v : Byte) : (s.setAcc r v).mem = s.mem := by cases r <;> rfl
@[simp] theorem State.setAcc_deviceLog (r : Acc) (v : Byte) : (s.setAcc r v).deviceLog = s.deviceLog := by cases r <;> rfl
@[simp] theorem State.setAcc_pending (r : Acc) (v : Byte) : (s.setAcc r v).pending = s.pending := by cases r <;> rfl
@[simp] theorem State.setAcc_inputs (r : Acc) (v : Byte) : (s.setAcc r v).inputs = s.inputs := by cases r <;> rfl
@[simp] theorem State.setAcc_draws (r : Acc) (v : Byte) : (s.setAcc r v).draws = s.draws := by cases r <;> rfl
@[simp] theorem State.setAcc_params (r : Acc) (v : Byte) : (s.setAcc r v).params = s.params := by cases r <;> rfl

@[simp] theorem State.setReg16_pc (r : Reg16) (v : Word) : (s.setReg16 r v).pc = s.pc := by cases r <;> rfl
@[simp] theorem State.setReg16_ccr (r : Reg16) (v : Word) : (s.setReg16 r v).ccr = s.ccr := by cases r <;> rfl
@[simp] theorem State.setReg16_runState (r : Reg16) (v : Word) : (s.setReg16 r v).runState = s.runState := by cases r <;> rfl
@[simp] theorem State.setReg16_iDelay (r : Reg16) (v : Word) : (s.setReg16 r v).iDelay = s.iDelay := by cases r <;> rfl
@[simp] theorem State.setReg16_mem (r : Reg16) (v : Word) : (s.setReg16 r v).mem = s.mem := by cases r <;> rfl
@[simp] theorem State.setReg16_deviceLog (r : Reg16) (v : Word) : (s.setReg16 r v).deviceLog = s.deviceLog := by cases r <;> rfl
@[simp] theorem State.setReg16_pending (r : Reg16) (v : Word) : (s.setReg16 r v).pending = s.pending := by cases r <;> rfl
@[simp] theorem State.setReg16_inputs (r : Reg16) (v : Word) : (s.setReg16 r v).inputs = s.inputs := by cases r <;> rfl
@[simp] theorem State.setReg16_draws (r : Reg16) (v : Word) : (s.setReg16 r v).draws = s.draws := by cases r <;> rfl
@[simp] theorem State.setReg16_params (r : Reg16) (v : Word) : (s.setReg16 r v).params = s.params := by cases r <;> rfl

@[simp] theorem State.setAcc_acc (r : Acc) (v : Byte) : (s.setAcc r v).acc r = v := by cases r <;> rfl

/-- Writing one accumulator keeps the other. -/
theorem State.setAcc_acc_other {r q : Acc} (h : q ≠ r) (v : Byte) : (s.setAcc r v).acc q = s.acc q := by
  cases r <;> cases q <;> first | rfl | exact absurd rfl h

@[simp] theorem State.setD_d (v : Word) : (s.setD v).d = v := by simp [State.d]

@[simp] theorem State.setReg16_reg16 (r : Reg16) (v : Word) : (s.setReg16 r v).reg16 r = v := by
  cases r
  case d => exact s.setD_d v
  all_goals rfl

/-- Writing back what a register holds changes nothing. -/
@[simp] theorem State.setD_self : s.setD s.d = s := by simp [State.setD, State.d, State.setA, State.setB]

@[simp] theorem State.setA_kind (v : Byte) (x : Word) : (s.setA v).kind x = s.kind x := rfl
@[simp] theorem State.setB_kind (v : Byte) (x : Word) : (s.setB v).kind x = s.kind x := rfl
@[simp] theorem State.setIx_kind (v : Word) (x : Word) : (s.setIx v).kind x = s.kind x := rfl
@[simp] theorem State.setIy_kind (v : Word) (x : Word) : (s.setIy v).kind x = s.kind x := rfl
@[simp] theorem State.setSp_kind (v : Word) (x : Word) : (s.setSp v).kind x = s.kind x := rfl
@[simp] theorem State.setPc_kind (v : Word) (x : Word) : (s.setPc v).kind x = s.kind x := rfl
@[simp] theorem State.setCcr_kind (v : CCR) (x : Word) : (s.setCcr v).kind x = s.kind x := rfl
@[simp] theorem State.setRunState_kind (v : RunState) (x : Word) : (s.setRunState v).kind x = s.kind x := rfl
@[simp] theorem State.setIDelay_kind (v : Bool) (x : Word) : (s.setIDelay v).kind x = s.kind x := rfl
@[simp] theorem State.setPending_kind (v : List Config.Source) (x : Word) : (s.setPending v).kind x = s.kind x := rfl
@[simp] theorem State.setInputs_kind (v : List Config.EnvInput) (x : Word) : (s.setInputs v).kind x = s.kind x := rfl
@[simp] theorem State.setDraws_kind (v : Nat) (x : Word) : (s.setDraws v).kind x = s.kind x := rfl
@[simp] theorem State.setD_kind (v : Word) (x : Word) : (s.setD v).kind x = s.kind x := rfl
@[simp] theorem State.setMem_kind (v : Memory) (x : Word) : (s.setMem v).kind x = s.kind x := rfl
@[simp] theorem State.setDeviceLog_kind (v : List Config.DeviceEvent) (x : Word) : (s.setDeviceLog v).kind x = s.kind x := rfl

@[simp] theorem State.setA_read8 (v : Byte) (x : Word) : (s.setA v).read8 x = s.read8 x := rfl
@[simp] theorem State.setB_read8 (v : Byte) (x : Word) : (s.setB v).read8 x = s.read8 x := rfl
@[simp] theorem State.setIx_read8 (v : Word) (x : Word) : (s.setIx v).read8 x = s.read8 x := rfl
@[simp] theorem State.setIy_read8 (v : Word) (x : Word) : (s.setIy v).read8 x = s.read8 x := rfl
@[simp] theorem State.setSp_read8 (v : Word) (x : Word) : (s.setSp v).read8 x = s.read8 x := rfl
@[simp] theorem State.setPc_read8 (v : Word) (x : Word) : (s.setPc v).read8 x = s.read8 x := rfl
@[simp] theorem State.setCcr_read8 (v : CCR) (x : Word) : (s.setCcr v).read8 x = s.read8 x := rfl
@[simp] theorem State.setRunState_read8 (v : RunState) (x : Word) : (s.setRunState v).read8 x = s.read8 x := rfl
@[simp] theorem State.setIDelay_read8 (v : Bool) (x : Word) : (s.setIDelay v).read8 x = s.read8 x := rfl
@[simp] theorem State.setPending_read8 (v : List Config.Source) (x : Word) : (s.setPending v).read8 x = s.read8 x := rfl
@[simp] theorem State.setInputs_read8 (v : List Config.EnvInput) (x : Word) : (s.setInputs v).read8 x = s.read8 x := rfl
@[simp] theorem State.setDraws_read8 (v : Nat) (x : Word) : (s.setDraws v).read8 x = s.read8 x := rfl
@[simp] theorem State.setD_read8 (v : Word) (x : Word) : (s.setD v).read8 x = s.read8 x := rfl
@[simp] theorem State.afterDraw_read8 (x : Word) : s.afterDraw.read8 x = s.read8 x := rfl

@[simp] theorem State.setA_read16 (v : Byte) (x : Word) : (s.setA v).read16 x = s.read16 x := rfl
@[simp] theorem State.setB_read16 (v : Byte) (x : Word) : (s.setB v).read16 x = s.read16 x := rfl
@[simp] theorem State.setIx_read16 (v : Word) (x : Word) : (s.setIx v).read16 x = s.read16 x := rfl
@[simp] theorem State.setIy_read16 (v : Word) (x : Word) : (s.setIy v).read16 x = s.read16 x := rfl
@[simp] theorem State.setSp_read16 (v : Word) (x : Word) : (s.setSp v).read16 x = s.read16 x := rfl
@[simp] theorem State.setPc_read16 (v : Word) (x : Word) : (s.setPc v).read16 x = s.read16 x := rfl
@[simp] theorem State.setCcr_read16 (v : CCR) (x : Word) : (s.setCcr v).read16 x = s.read16 x := rfl
@[simp] theorem State.setRunState_read16 (v : RunState) (x : Word) : (s.setRunState v).read16 x = s.read16 x := rfl
@[simp] theorem State.setIDelay_read16 (v : Bool) (x : Word) : (s.setIDelay v).read16 x = s.read16 x := rfl
@[simp] theorem State.setPending_read16 (v : List Config.Source) (x : Word) : (s.setPending v).read16 x = s.read16 x := rfl
@[simp] theorem State.setInputs_read16 (v : List Config.EnvInput) (x : Word) : (s.setInputs v).read16 x = s.read16 x := rfl
@[simp] theorem State.setDraws_read16 (v : Nat) (x : Word) : (s.setDraws v).read16 x = s.read16 x := rfl
@[simp] theorem State.setD_read16 (v : Word) (x : Word) : (s.setD v).read16 x = s.read16 x := rfl
@[simp] theorem State.afterDraw_read16 (x : Word) : s.afterDraw.read16 x = s.read16 x := rfl

@[simp] theorem State.setAcc_read8 (r : Acc) (v : Byte) (x : Word) : (s.setAcc r v).read8 x = s.read8 x := by
  cases r <;> rfl
@[simp] theorem State.setReg16_read8 (r : Reg16) (v x : Word) : (s.setReg16 r v).read8 x = s.read8 x := by
  cases r <;> rfl

@[simp] theorem State.setA_ea (v : Byte) (m : Addr) : (s.setA v).ea m = s.ea m := by cases m <;> rfl
@[simp] theorem State.setB_ea (v : Byte) (m : Addr) : (s.setB v).ea m = s.ea m := by cases m <;> rfl
@[simp] theorem State.setSp_ea (v : Word) (m : Addr) : (s.setSp v).ea m = s.ea m := by cases m <;> rfl
@[simp] theorem State.setPc_ea (v : Word) (m : Addr) : (s.setPc v).ea m = s.ea m := by cases m <;> rfl
@[simp] theorem State.setCcr_ea (v : CCR) (m : Addr) : (s.setCcr v).ea m = s.ea m := by cases m <;> rfl
@[simp] theorem State.setRunState_ea (v : RunState) (m : Addr) : (s.setRunState v).ea m = s.ea m := by cases m <;> rfl
@[simp] theorem State.setIDelay_ea (v : Bool) (m : Addr) : (s.setIDelay v).ea m = s.ea m := by cases m <;> rfl
@[simp] theorem State.setMem_ea (v : Memory) (m : Addr) : (s.setMem v).ea m = s.ea m := by cases m <;> rfl
@[simp] theorem State.setDeviceLog_ea (v : List Config.DeviceEvent) (m : Addr) : (s.setDeviceLog v).ea m = s.ea m := by cases m <;> rfl
@[simp] theorem State.setDraws_ea (v : Nat) (m : Addr) : (s.setDraws v).ea m = s.ea m := by cases m <;> rfl
@[simp] theorem State.setD_ea (v : Word) (m : Addr) : (s.setD v).ea m = s.ea m := by cases m <;> rfl

/-! ### The later of two updates of one field stands -/

@[simp] theorem State.setA_setA (u v : Byte) : (s.setA u).setA v = s.setA v := rfl
@[simp] theorem State.setB_setB (u v : Byte) : (s.setB u).setB v = s.setB v := rfl
@[simp] theorem State.setIx_setIx (u v : Word) : (s.setIx u).setIx v = s.setIx v := rfl
@[simp] theorem State.setIy_setIy (u v : Word) : (s.setIy u).setIy v = s.setIy v := rfl
@[simp] theorem State.setSp_setSp (u v : Word) : (s.setSp u).setSp v = s.setSp v := rfl
@[simp] theorem State.setPc_setPc (u v : Word) : (s.setPc u).setPc v = s.setPc v := rfl
@[simp] theorem State.setCcr_setCcr (u v : CCR) : (s.setCcr u).setCcr v = s.setCcr v := rfl
@[simp] theorem State.setRunState_setRunState (u v : RunState) : (s.setRunState u).setRunState v = s.setRunState v := rfl
@[simp] theorem State.setIDelay_setIDelay (u v : Bool) : (s.setIDelay u).setIDelay v = s.setIDelay v := rfl
@[simp] theorem State.setMem_setMem (u v : Memory) : (s.setMem u).setMem v = s.setMem v := rfl
@[simp] theorem State.setDeviceLog_setDeviceLog (u v : List Config.DeviceEvent) : (s.setDeviceLog u).setDeviceLog v = s.setDeviceLog v := rfl
@[simp] theorem State.setPending_setPending (u v : List Config.Source) : (s.setPending u).setPending v = s.setPending v := rfl
@[simp] theorem State.setInputs_setInputs (u v : List Config.EnvInput) : (s.setInputs u).setInputs v = s.setInputs v := rfl
@[simp] theorem State.setDraws_setDraws (u v : Nat) : (s.setDraws u).setDraws v = s.setDraws v := rfl

/-! ### The state that reads leave: only the devices see them -/

@[simp] theorem State.noteDevice_deviceLog (e : Config.DeviceEvent) : (s.noteDevice e).deviceLog = e :: s.deviceLog := rfl
@[simp] theorem State.noteDevice_a (e : Config.DeviceEvent) : (s.noteDevice e).a = s.a := rfl
@[simp] theorem State.noteDevice_b (e : Config.DeviceEvent) : (s.noteDevice e).b = s.b := rfl
@[simp] theorem State.noteDevice_ix (e : Config.DeviceEvent) : (s.noteDevice e).ix = s.ix := rfl
@[simp] theorem State.noteDevice_iy (e : Config.DeviceEvent) : (s.noteDevice e).iy = s.iy := rfl
@[simp] theorem State.noteDevice_sp (e : Config.DeviceEvent) : (s.noteDevice e).sp = s.sp := rfl
@[simp] theorem State.noteDevice_pc (e : Config.DeviceEvent) : (s.noteDevice e).pc = s.pc := rfl
@[simp] theorem State.noteDevice_ccr (e : Config.DeviceEvent) : (s.noteDevice e).ccr = s.ccr := rfl
@[simp] theorem State.noteDevice_runState (e : Config.DeviceEvent) : (s.noteDevice e).runState = s.runState := rfl
@[simp] theorem State.noteDevice_iDelay (e : Config.DeviceEvent) : (s.noteDevice e).iDelay = s.iDelay := rfl
@[simp] theorem State.noteDevice_mem (e : Config.DeviceEvent) : (s.noteDevice e).mem = s.mem := rfl
@[simp] theorem State.noteDevice_pending (e : Config.DeviceEvent) : (s.noteDevice e).pending = s.pending := rfl
@[simp] theorem State.noteDevice_inputs (e : Config.DeviceEvent) : (s.noteDevice e).inputs = s.inputs := rfl
@[simp] theorem State.noteDevice_draws (e : Config.DeviceEvent) : (s.noteDevice e).draws = s.draws := rfl
@[simp] theorem State.noteDevice_params (e : Config.DeviceEvent) : (s.noteDevice e).params = s.params := rfl

/-- A read changes the device log at most. -/
theorem State.afterRead_eq (x : Word) : s.afterRead x = s.setDeviceLog (s.afterRead x).deviceLog := rfl

/-- Away from the devices a read leaves the state as it is. -/
theorem State.afterRead_storage {x : Word} (h : s.kind x ≠ .device) : s.afterRead x = s := by
  unfold State.afterRead State.logAfterRead
  cases hk : s.kind x
  case device => exact absurd hk h
  all_goals rfl

/-- A device sees a read of its address. -/
theorem State.afterRead_device {x : Word} (h : s.kind x = .device) : s.afterRead x = s.noteDevice (.read x) := by
  simp [State.afterRead, State.logAfterRead, State.noteDevice, h]

@[simp] theorem State.afterRead_a (x : Word) : (s.afterRead x).a = s.a := rfl
@[simp] theorem State.afterRead_b (x : Word) : (s.afterRead x).b = s.b := rfl
@[simp] theorem State.afterRead_ix (x : Word) : (s.afterRead x).ix = s.ix := rfl
@[simp] theorem State.afterRead_iy (x : Word) : (s.afterRead x).iy = s.iy := rfl
@[simp] theorem State.afterRead_sp (x : Word) : (s.afterRead x).sp = s.sp := rfl
@[simp] theorem State.afterRead_pc (x : Word) : (s.afterRead x).pc = s.pc := rfl
@[simp] theorem State.afterRead_ccr (x : Word) : (s.afterRead x).ccr = s.ccr := rfl
@[simp] theorem State.afterRead_runState (x : Word) : (s.afterRead x).runState = s.runState := rfl
@[simp] theorem State.afterRead_iDelay (x : Word) : (s.afterRead x).iDelay = s.iDelay := rfl
@[simp] theorem State.afterRead_mem (x : Word) : (s.afterRead x).mem = s.mem := rfl
@[simp] theorem State.afterRead_pending (x : Word) : (s.afterRead x).pending = s.pending := rfl
@[simp] theorem State.afterRead_inputs (x : Word) : (s.afterRead x).inputs = s.inputs := rfl
@[simp] theorem State.afterRead_draws (x : Word) : (s.afterRead x).draws = s.draws := rfl
@[simp] theorem State.afterRead_params (x : Word) : (s.afterRead x).params = s.params := rfl
@[simp] theorem State.afterRead_kind (x y : Word) : (s.afterRead x).kind y = s.kind y := rfl
@[simp] theorem State.afterRead_ea (x : Word) (m : Addr) : (s.afterRead x).ea m = s.ea m := by cases m <;> simp [State.ea]
@[simp] theorem State.afterRead_d (x : Word) : (s.afterRead x).d = s.d := rfl

/-- A word read changes the device log at most. -/
theorem State.afterRead16_eq (x : Word) : s.afterRead16 x = s.setDeviceLog (s.afterRead16 x).deviceLog := rfl

@[simp] theorem State.afterRead16_a (x : Word) : (s.afterRead16 x).a = s.a := rfl
@[simp] theorem State.afterRead16_b (x : Word) : (s.afterRead16 x).b = s.b := rfl
@[simp] theorem State.afterRead16_ix (x : Word) : (s.afterRead16 x).ix = s.ix := rfl
@[simp] theorem State.afterRead16_iy (x : Word) : (s.afterRead16 x).iy = s.iy := rfl
@[simp] theorem State.afterRead16_sp (x : Word) : (s.afterRead16 x).sp = s.sp := rfl
@[simp] theorem State.afterRead16_pc (x : Word) : (s.afterRead16 x).pc = s.pc := rfl
@[simp] theorem State.afterRead16_ccr (x : Word) : (s.afterRead16 x).ccr = s.ccr := rfl
@[simp] theorem State.afterRead16_runState (x : Word) : (s.afterRead16 x).runState = s.runState := rfl
@[simp] theorem State.afterRead16_iDelay (x : Word) : (s.afterRead16 x).iDelay = s.iDelay := rfl
@[simp] theorem State.afterRead16_mem (x : Word) : (s.afterRead16 x).mem = s.mem := rfl
@[simp] theorem State.afterRead16_pending (x : Word) : (s.afterRead16 x).pending = s.pending := rfl
@[simp] theorem State.afterRead16_inputs (x : Word) : (s.afterRead16 x).inputs = s.inputs := rfl
@[simp] theorem State.afterRead16_draws (x : Word) : (s.afterRead16 x).draws = s.draws := rfl
@[simp] theorem State.afterRead16_params (x : Word) : (s.afterRead16 x).params = s.params := rfl
@[simp] theorem State.afterRead16_kind (x y : Word) : (s.afterRead16 x).kind y = s.kind y := rfl

/-- Reads one after the other change the device log at most. -/
theorem State.afterReads_eq (x : Word) (n : Nat) : s.afterReads x n = s.setDeviceLog (s.afterReads x n).deviceLog := by
  induction n with
  | zero => rfl
  | succ n ih =>
    simp only [State.afterReads]
    rw [State.afterRead_eq, ih]
    rfl

@[simp] theorem State.afterReads_a (x : Word) (n : Nat) : (s.afterReads x n).a = s.a := by rw [s.afterReads_eq]; rfl
@[simp] theorem State.afterReads_b (x : Word) (n : Nat) : (s.afterReads x n).b = s.b := by rw [s.afterReads_eq]; rfl
@[simp] theorem State.afterReads_ix (x : Word) (n : Nat) : (s.afterReads x n).ix = s.ix := by rw [s.afterReads_eq]; rfl
@[simp] theorem State.afterReads_iy (x : Word) (n : Nat) : (s.afterReads x n).iy = s.iy := by rw [s.afterReads_eq]; rfl
@[simp] theorem State.afterReads_sp (x : Word) (n : Nat) : (s.afterReads x n).sp = s.sp := by rw [s.afterReads_eq]; rfl
@[simp] theorem State.afterReads_pc (x : Word) (n : Nat) : (s.afterReads x n).pc = s.pc := by rw [s.afterReads_eq]; rfl
@[simp] theorem State.afterReads_ccr (x : Word) (n : Nat) : (s.afterReads x n).ccr = s.ccr := by rw [s.afterReads_eq]; rfl
@[simp] theorem State.afterReads_runState (x : Word) (n : Nat) : (s.afterReads x n).runState = s.runState := by rw [s.afterReads_eq]; rfl
@[simp] theorem State.afterReads_iDelay (x : Word) (n : Nat) : (s.afterReads x n).iDelay = s.iDelay := by rw [s.afterReads_eq]; rfl
@[simp] theorem State.afterReads_mem (x : Word) (n : Nat) : (s.afterReads x n).mem = s.mem := by rw [s.afterReads_eq]; rfl
@[simp] theorem State.afterReads_pending (x : Word) (n : Nat) : (s.afterReads x n).pending = s.pending := by rw [s.afterReads_eq]; rfl
@[simp] theorem State.afterReads_inputs (x : Word) (n : Nat) : (s.afterReads x n).inputs = s.inputs := by rw [s.afterReads_eq]; rfl
@[simp] theorem State.afterReads_draws (x : Word) (n : Nat) : (s.afterReads x n).draws = s.draws := by rw [s.afterReads_eq]; rfl
@[simp] theorem State.afterReads_params (x : Word) (n : Nat) : (s.afterReads x n).params = s.params := by rw [s.afterReads_eq]; rfl
@[simp] theorem State.afterReads_kind (x y : Word) (n : Nat) : (s.afterReads x n).kind y = s.kind y := by rw [s.afterReads_eq]; rfl

/-- Taking an operand changes the device log at most. -/
theorem State.afterOpnd8_eq (src : Src8) : s.afterOpnd8 src = s.setDeviceLog (s.afterOpnd8 src).deviceLog := by
  cases src with
  | imm _ => rfl
  | mem m => exact s.afterRead_eq _

@[simp] theorem State.afterOpnd8_a (src : Src8) : (s.afterOpnd8 src).a = s.a := by rw [s.afterOpnd8_eq]; rfl
@[simp] theorem State.afterOpnd8_b (src : Src8) : (s.afterOpnd8 src).b = s.b := by rw [s.afterOpnd8_eq]; rfl
@[simp] theorem State.afterOpnd8_ix (src : Src8) : (s.afterOpnd8 src).ix = s.ix := by rw [s.afterOpnd8_eq]; rfl
@[simp] theorem State.afterOpnd8_iy (src : Src8) : (s.afterOpnd8 src).iy = s.iy := by rw [s.afterOpnd8_eq]; rfl
@[simp] theorem State.afterOpnd8_sp (src : Src8) : (s.afterOpnd8 src).sp = s.sp := by rw [s.afterOpnd8_eq]; rfl
@[simp] theorem State.afterOpnd8_pc (src : Src8) : (s.afterOpnd8 src).pc = s.pc := by rw [s.afterOpnd8_eq]; rfl
@[simp] theorem State.afterOpnd8_ccr (src : Src8) : (s.afterOpnd8 src).ccr = s.ccr := by rw [s.afterOpnd8_eq]; rfl
@[simp] theorem State.afterOpnd8_runState (src : Src8) : (s.afterOpnd8 src).runState = s.runState := by rw [s.afterOpnd8_eq]; rfl
@[simp] theorem State.afterOpnd8_iDelay (src : Src8) : (s.afterOpnd8 src).iDelay = s.iDelay := by rw [s.afterOpnd8_eq]; rfl
@[simp] theorem State.afterOpnd8_mem (src : Src8) : (s.afterOpnd8 src).mem = s.mem := by rw [s.afterOpnd8_eq]; rfl
@[simp] theorem State.afterOpnd8_pending (src : Src8) : (s.afterOpnd8 src).pending = s.pending := by rw [s.afterOpnd8_eq]; rfl
@[simp] theorem State.afterOpnd8_inputs (src : Src8) : (s.afterOpnd8 src).inputs = s.inputs := by rw [s.afterOpnd8_eq]; rfl
@[simp] theorem State.afterOpnd8_draws (src : Src8) : (s.afterOpnd8 src).draws = s.draws := by rw [s.afterOpnd8_eq]; rfl
@[simp] theorem State.afterOpnd8_params (src : Src8) : (s.afterOpnd8 src).params = s.params := by rw [s.afterOpnd8_eq]; rfl
@[simp] theorem State.afterOpnd8_kind (src : Src8) (y : Word) : (s.afterOpnd8 src).kind y = s.kind y := by rw [s.afterOpnd8_eq]; rfl
@[simp] theorem State.afterOpnd8_d (src : Src8) : (s.afterOpnd8 src).d = s.d := by simp [State.d]
@[simp] theorem State.afterOpnd8_acc (src : Src8) (r : Acc) : (s.afterOpnd8 src).acc r = s.acc r := by cases r <;> simp [State.acc]
@[simp] theorem State.afterOpnd8_reg16 (src : Src8) (r : Reg16) : (s.afterOpnd8 src).reg16 r = s.reg16 r := by cases r <;> simp [State.reg16]

/-- Taking an operand changes the device log at most. -/
theorem State.afterOpnd16_eq (src : Src16) : s.afterOpnd16 src = s.setDeviceLog (s.afterOpnd16 src).deviceLog := by
  cases src with
  | imm _ => rfl
  | mem m => exact s.afterRead16_eq _

@[simp] theorem State.afterOpnd16_a (src : Src16) : (s.afterOpnd16 src).a = s.a := by rw [s.afterOpnd16_eq]; rfl
@[simp] theorem State.afterOpnd16_b (src : Src16) : (s.afterOpnd16 src).b = s.b := by rw [s.afterOpnd16_eq]; rfl
@[simp] theorem State.afterOpnd16_ix (src : Src16) : (s.afterOpnd16 src).ix = s.ix := by rw [s.afterOpnd16_eq]; rfl
@[simp] theorem State.afterOpnd16_iy (src : Src16) : (s.afterOpnd16 src).iy = s.iy := by rw [s.afterOpnd16_eq]; rfl
@[simp] theorem State.afterOpnd16_sp (src : Src16) : (s.afterOpnd16 src).sp = s.sp := by rw [s.afterOpnd16_eq]; rfl
@[simp] theorem State.afterOpnd16_pc (src : Src16) : (s.afterOpnd16 src).pc = s.pc := by rw [s.afterOpnd16_eq]; rfl
@[simp] theorem State.afterOpnd16_ccr (src : Src16) : (s.afterOpnd16 src).ccr = s.ccr := by rw [s.afterOpnd16_eq]; rfl
@[simp] theorem State.afterOpnd16_runState (src : Src16) : (s.afterOpnd16 src).runState = s.runState := by rw [s.afterOpnd16_eq]; rfl
@[simp] theorem State.afterOpnd16_iDelay (src : Src16) : (s.afterOpnd16 src).iDelay = s.iDelay := by rw [s.afterOpnd16_eq]; rfl
@[simp] theorem State.afterOpnd16_mem (src : Src16) : (s.afterOpnd16 src).mem = s.mem := by rw [s.afterOpnd16_eq]; rfl
@[simp] theorem State.afterOpnd16_pending (src : Src16) : (s.afterOpnd16 src).pending = s.pending := by rw [s.afterOpnd16_eq]; rfl
@[simp] theorem State.afterOpnd16_inputs (src : Src16) : (s.afterOpnd16 src).inputs = s.inputs := by rw [s.afterOpnd16_eq]; rfl
@[simp] theorem State.afterOpnd16_draws (src : Src16) : (s.afterOpnd16 src).draws = s.draws := by rw [s.afterOpnd16_eq]; rfl
@[simp] theorem State.afterOpnd16_params (src : Src16) : (s.afterOpnd16 src).params = s.params := by rw [s.afterOpnd16_eq]; rfl
@[simp] theorem State.afterOpnd16_kind (src : Src16) (y : Word) : (s.afterOpnd16 src).kind y = s.kind y := by rw [s.afterOpnd16_eq]; rfl
@[simp] theorem State.afterOpnd16_d (src : Src16) : (s.afterOpnd16 src).d = s.d := by simp [State.d]
@[simp] theorem State.afterOpnd16_acc (src : Src16) (r : Acc) : (s.afterOpnd16 src).acc r = s.acc r := by cases r <;> simp [State.acc]
@[simp] theorem State.afterOpnd16_reg16 (src : Src16) (r : Reg16) : (s.afterOpnd16 src).reg16 r = s.reg16 r := by cases r <;> simp [State.reg16]

end Sys2Proof.Machine
end

