-- ==== Sys2Proof/Laws/Ops.lean ====
section
/-! SUPPORT. What each shared operation can do, said once: later proofs cite these and do not unfold the operation. -/

namespace Sys2Proof.Machine

open Sys2Proof.Config

/-! ### Sequencing and outcomes -/

@[simp] theorem ok_bind {ε α β : Type} (a : α) (f : α → Except ε β) : (Except.ok a >>= f) = f a := rfl

@[simp] theorem error_bind {ε α β : Type} (e : ε) (f : α → Except ε β) : (Except.error e >>= f) = .error e := rfl

/-- A sequence succeeds when both parts do. -/
theorem bind_eq_ok {ε α β : Type} {x : Except ε α} {f : α → Except ε β} {b : β} :
    (x >>= f) = .ok b ↔ ∃ a, x = .ok a ∧ f a = .ok b := by
  cases x with
  | error e => simp
  | ok a => simp

@[simp] theorem finish_ok (s : State) : finish (.ok s) = .next s := rfl

/-- An operation's step has a next state exactly when the operation succeeds, and it is that state. -/
theorem finish_eq_next {x : Except Stop State} {t : State} : finish x = .next t ↔ x = .ok t := by
  cases x with
  | ok s => simp [finish]
  | error e => cases e <;> simp [finish]

/-! ### Memory accesses -/

/-- A memory that differs from another at the listed addresses at most, and keeps the canonical form. -/
structure StoredOnly (m m' : Memory) (as : List Word) : Prop where
  frame : ∀ x : Word, x ∉ as → Memory.read m' x.toNat = Memory.read m x.toNat
  wf : Memory.wf m = true → Memory.wf m' = true

theorem StoredOnly.refl (m : Memory) (as : List Word) : StoredOnly m m as := ⟨fun _ _ => rfl, id⟩

theorem StoredOnly.trans {m m' m'' : Memory} {as bs : List Word} (h : StoredOnly m m' as) (k : StoredOnly m' m'' bs) :
    StoredOnly m m'' (as ++ bs) where
  frame x hx := by
    rw [List.mem_append, not_or] at hx
    rw [k.frame x hx.2, h.frame x hx.1]
  wf hm := k.wf (h.wf hm)

theorem StoredOnly.write (m : Memory) (a : Word) (v : Byte) : StoredOnly m (Memory.write m a.toNat v) [a] where
  frame x hx := by
    refine Memory.read_write_other m (fun e => hx ?_) v
    simp [BitVec.eq_of_toNat_eq e]
  wf hm := Memory.wf_write a.isLt hm

/-- A byte reads the same in two states whose memory agrees there, whose platform is the same, and whose devices have
seen the same. -/
theorem read8_congr {s t : State} {x : Word} (hm : Memory.read t.mem x.toNat = Memory.read s.mem x.toNat)
    (hl : t.deviceLog = s.deviceLog) (hp : t.params = s.params) : t.read8 x = s.read8 x := by
  simp only [State.read8, State.kind, hm, hl, hp]

/-- The same of a byte that is no device's, whatever the devices have seen. -/
theorem read8_congr_storage {s t : State} {x : Word} (hm : Memory.read t.mem x.toNat = Memory.read s.mem x.toNat)
    (hp : t.params = s.params) (hk : s.kind x ≠ .device) : t.read8 x = s.read8 x := by
  have ht : t.kind x = s.kind x := by simp only [State.kind, hp]
  unfold State.read8
  rw [ht, hm]
  cases h : s.kind x
  case device => exact absurd h hk
  all_goals rfl

/-- A byte of RAM reads as memory lists it. -/
theorem read8_ram {s : State} {x : Word} {v : Byte} (hk : s.kind x = .ram)
    (hm : Memory.read s.mem x.toNat = some v) : s.read8 x = .ok v := by
  simp [State.read8, hk, hm]

/-- A device answers every read, by the platform's rule. -/
theorem read8_device {s : State} {x : Word} (hk : s.kind x = .device) : s.read8 x = .ok (deviceByte s.deviceLog x) := by
  simp [State.read8, hk]

/-- A read that answers found the byte in RAM or ROM, or asked a device. -/
theorem read8_eq_ok {s : State} {x : Word} {v : Byte} :
    s.read8 x = .ok v ↔ s.kind x = .device ∧ v = deviceByte s.deviceLog x ∨
      (s.kind x = .ram ∨ s.kind x = .rom) ∧ Memory.read s.mem x.toNat = some v := by
  unfold State.read8
  cases hk : s.kind x <;> cases hm : Memory.read s.mem x.toNat <;> simp [eq_comm]

/-- A read that stops is the fault of a byte without a value. -/
theorem read8_eq_error {s : State} {x : Word} {e : Stop} :
    s.read8 x = .error e ↔ e = .fault (.unwrittenRead x) ∧
      (s.kind x = .absent ∨ (s.kind x = .ram ∨ s.kind x = .rom) ∧ Memory.read s.mem x.toNat = none) := by
  unfold State.read8
  cases hk : s.kind x <;> cases hm : Memory.read s.mem x.toNat <;> simp [eq_comm]

/-- A word read succeeds when both byte reads do, high byte first. -/
theorem read16_eq_ok {s : State} {a v : Word} :
    s.read16 a = .ok v ↔ ∃ h l, s.read8 a = .ok h ∧ (s.afterRead a).read8 (a + 1) = .ok l ∧ v = joinBytes h l := by
  simp only [State.read16, bind_eq_ok, Except.ok.injEq]
  constructor
  · rintro ⟨h, e1, l, e2, rfl⟩; exact ⟨h, l, e1, e2, rfl⟩
  · rintro ⟨h, l, e1, e2, rfl⟩; exact ⟨h, e1, l, e2, rfl⟩

/-- CLR's read always goes on. -/
@[simp] theorem discardRead8_ok (s : State) (a : Word) : s.discardRead8 a = .ok (s.afterRead a) := rfl

/-! ### Stores -/

/-- A store to RAM. -/
theorem stored_ram {s : State} {a : Word} (v : Byte) (h : s.kind a = .ram) :
    s.stored a v = s.setMem (Memory.write s.mem a.toNat v) := by simp [State.stored, h]

/-- A store to a device. -/
theorem stored_device {s : State} {a : Word} (v : Byte) (h : s.kind a = .device) :
    s.stored a v = s.noteDevice (.write a v) := by simp [State.stored, h, State.noteDevice]

/-- A store to ROM or to nothing is ignored. -/
theorem stored_ignored {s : State} {a : Word} (v : Byte) (h : s.kind a = .rom ∨ s.kind a = .absent) :
    s.stored a v = s := by rcases h with h | h <;> simp [State.stored, h]

/-- A store never stops. -/
theorem write8_ok (s : State) (a : Word) (v : Byte) : s.write8 a v = .ok (s.stored a v) := by
  unfold State.write8 State.stored
  cases hk : s.kind a <;> simp [State.noteDevice]

/-- A store touches memory and the devices alone. -/
theorem stored_eq (s : State) (a : Word) (v : Byte) :
    s.stored a v = (s.setMem (s.stored a v).mem).setDeviceLog (s.stored a v).deviceLog := by
  unfold State.stored
  split
  · rfl
  · split <;> rfl

@[simp] theorem stored_a (s : State) (a : Word) (v : Byte) : (s.stored a v).a = s.a := by rw [stored_eq]; rfl
@[simp] theorem stored_b (s : State) (a : Word) (v : Byte) : (s.stored a v).b = s.b := by rw [stored_eq]; rfl
@[simp] theorem stored_ix (s : State) (a : Word) (v : Byte) : (s.stored a v).ix = s.ix := by rw [stored_eq]; rfl
@[simp] theorem stored_iy (s : State) (a : Word) (v : Byte) : (s.stored a v).iy = s.iy := by rw [stored_eq]; rfl
@[simp] theorem stored_sp (s : State) (a : Word) (v : Byte) : (s.stored a v).sp = s.sp := by rw [stored_eq]; rfl
@[simp] theorem stored_pc (s : State) (a : Word) (v : Byte) : (s.stored a v).pc = s.pc := by rw [stored_eq]; rfl
@[simp] theorem stored_ccr (s : State) (a : Word) (v : Byte) : (s.stored a v).ccr = s.ccr := by rw [stored_eq]; rfl
@[simp] theorem stored_runState (s : State) (a : Word) (v : Byte) : (s.stored a v).runState = s.runState := by rw [stored_eq]; rfl
@[simp] theorem stored_iDelay (s : State) (a : Word) (v : Byte) : (s.stored a v).iDelay = s.iDelay := by rw [stored_eq]; rfl
@[simp] theorem stored_pending (s : State) (a : Word) (v : Byte) : (s.stored a v).pending = s.pending := by rw [stored_eq]; rfl
@[simp] theorem stored_inputs (s : State) (a : Word) (v : Byte) : (s.stored a v).inputs = s.inputs := by rw [stored_eq]; rfl
@[simp] theorem stored_draws (s : State) (a : Word) (v : Byte) : (s.stored a v).draws = s.draws := by rw [stored_eq]; rfl
@[simp] theorem stored_params (s : State) (a : Word) (v : Byte) : (s.stored a v).params = s.params := by rw [stored_eq]; rfl
@[simp] theorem stored_kind (s : State) (a x : Word) (v : Byte) : (s.stored a v).kind x = s.kind x := by
  rw [stored_eq]; rfl

/-- Moving SP and a store do not meet. -/
theorem stored_setSp (s : State) (a p : Word) (v : Byte) : (s.setSp p).stored a v = (s.stored a v).setSp p := by
  by_cases h : s.kind a = .ram
  · rw [stored_ram v h, stored_ram v (by simpa using h)]
    rfl
  · by_cases h' : s.kind a = .device
    · rw [stored_device v h', stored_device v (by simpa using h')]
      rfl
    · simp only [State.stored, State.setSp_kind, h, h', if_false]

/-- A word store never stops. -/
theorem write16_ok (s : State) (a v : Word) : s.write16 a v = .ok (s.stored16 a v) := by
  simp only [State.write16, write8_ok, ok_bind, State.stored16]

/-- A word store touches memory and the devices alone. -/
theorem stored16_eq (s : State) (a v : Word) :
    s.stored16 a v = (s.setMem (s.stored16 a v).mem).setDeviceLog (s.stored16 a v).deviceLog := by
  simp only [State.stored16]
  rw [stored_eq, stored_eq s]
  rfl

/-! ### What accesses can do -/

/-- One state follows from another by accesses that store to the listed addresses at most. -/
structure State.Accessed (s t : State) (as : List Word) : Prop where
  memory : StoredOnly s.mem t.mem as
  devices : s.NotesOnly t as

theorem State.Accessed.refl (s : State) (as : List Word) : s.Accessed s as := ⟨.refl _ _, [], rfl, by simp⟩

/-- Only memory and the devices matter. -/
theorem State.Accessed.congr {s t u : State} {as : List Word} (h : s.Accessed t as) (hm : u.mem = t.mem)
    (hl : u.deviceLog = t.deviceLog) : s.Accessed u as := by
  obtain ⟨⟨h1, h2⟩, n, h3, h4⟩ := h
  exact ⟨⟨by rw [hm]; exact h1, by rw [hm]; exact h2⟩, n, by rw [hl]; exact h3, h4⟩

theorem State.Accessed.trans {s t u : State} {as bs : List Word} (h : s.Accessed t as) (k : t.Accessed u bs)
    (hp : t.params = s.params) : s.Accessed u (as ++ bs) where
  memory := h.memory.trans k.memory
  devices := by
    obtain ⟨n, e, hn⟩ := h.devices
    obtain ⟨m, e', hm⟩ := k.devices
    refine ⟨m ++ n, by rw [e', e, List.append_assoc], fun x hx => ?_⟩
    rcases List.mem_append.1 hx with hx | hx
    · obtain ⟨y, hy, hx⟩ := hm x hx
      refine ⟨y, by simpa only [State.kind, hp] using hy, hx.imp id fun hx => ⟨List.mem_append.2 (.inr hx.1), hx.2⟩⟩
    · obtain ⟨y, hy, hx⟩ := hn x hx
      exact ⟨y, hy, hx.imp id fun hx => ⟨List.mem_append.2 (.inl hx.1), hx.2⟩⟩

/-- A byte that is no device's reads as before, but for the bytes stored. -/
theorem State.Accessed.read8 {s t : State} {as : List Word} (h : s.Accessed t as) (hp : t.params = s.params) {x : Word}
    (hx : x ∉ as) (hk : s.kind x ≠ .device) : t.read8 x = s.read8 x := read8_congr_storage (h.memory.frame x hx) hp hk

theorem accessed_afterRead (s : State) (x : Word) (as : List Word) : s.Accessed (s.afterRead x) as := by
  refine ⟨.refl _ _, ?_⟩
  by_cases h : s.kind x = .device
  · exact ⟨[.read x], by rw [s.afterRead_device h]; rfl, fun e he => ⟨x, h, .inl (List.mem_singleton.1 he)⟩⟩
  · exact ⟨[], by rw [s.afterRead_storage h]; rfl, by simp⟩

theorem accessed_afterReads (s : State) (x : Word) (n : Nat) (as : List Word) : s.Accessed (s.afterReads x n) as := by
  induction n with
  | zero => exact .refl _ _
  | succ n ih =>
    have h : s.Accessed (s.afterReads x (n + 1)) (as ++ []) := ih.trans (accessed_afterRead _ _ []) (by simp)
    rwa [List.append_nil] at h

theorem accessed_afterRead16 (s : State) (x : Word) (as : List Word) : s.Accessed (s.afterRead16 x) as := by
  have h : s.Accessed (s.afterRead16 x) (as ++ []) := (accessed_afterRead s x as).trans (accessed_afterRead _ _ []) rfl
  rwa [List.append_nil] at h

theorem accessed_afterOpnd8 (s : State) (src : Src8) (as : List Word) : s.Accessed (s.afterOpnd8 src) as := by
  cases src with
  | imm _ => exact .refl _ _
  | mem m => exact accessed_afterRead _ _ _

theorem accessed_afterOpnd16 (s : State) (src : Src16) (as : List Word) : s.Accessed (s.afterOpnd16 src) as := by
  cases src with
  | imm _ => exact .refl _ _
  | mem m => exact accessed_afterRead16 _ _ _

theorem accessed_stored (s : State) (a : Word) (v : Byte) : s.Accessed (s.stored a v) [a] := by
  unfold State.stored
  split
  · exact ⟨.write _ _ _, [], rfl, by simp⟩
  · split
    · rename_i h
      exact ⟨.refl _ _, [.write a v], rfl, by simpa using h⟩
    · exact .refl _ _

/-- A byte stored in RAM is read back. -/
theorem stored_read8_same {s : State} {a : Word} (v : Byte) (h : s.kind a = .ram) : (s.stored a v).read8 a = .ok v := by
  rw [stored_ram v h]
  exact read8_ram (by rw [State.setMem_kind, h]) (by simp)

/-- A store leaves every other byte, but for what one device answers after a store to another. -/
theorem stored_read8_other {s : State} {a x : Word} (v : Byte) (hx : x ≠ a)
    (h : s.kind a ≠ .device ∨ s.kind x ≠ .device) : (s.stored a v).read8 x = s.read8 x := by
  rcases h with h | h
  · refine read8_congr ((accessed_stored s a v).memory.frame x (by simpa using hx)) ?_ (stored_params s a v)
    unfold State.stored
    rw [if_neg h]
    split <;> rfl
  · exact (accessed_stored s a v).read8 (stored_params s a v) (by simpa using hx) h

/-- A store to RAM, seen from any address. -/
theorem stored_read8_ram {s : State} {a : Word} (x : Word) (v : Byte) (h : s.kind a = .ram) :
    (s.stored a v).read8 x = if x = a then .ok v else s.read8 x := by
  split
  · subst x
    exact stored_read8_same v h
  · exact stored_read8_other v ‹_› (.inl (by simp [h]))

theorem accessed_stored16 (s : State) (a v : Word) : s.Accessed (s.stored16 a v) [a, a + 1] :=
  (accessed_stored s a _).trans (accessed_stored _ _ _) (by simp)

/-- A list of stores, one after the other. -/
theorem accessed_stores (l : List (Word × Byte)) (s : State) :
    s.Accessed (l.foldl (fun t p => t.stored p.1 p.2) s) (l.map (·.1)) := by
  induction l generalizing s with
  | nil => exact .refl _ _
  | cons p l ih => exact (accessed_stored s p.1 p.2).trans (ih _) (by simp)

theorem stores_eq (l : List (Word × Byte)) (s : State) : ∃ m d,
    l.foldl (fun t p => t.stored p.1 p.2) s = (s.setMem m).setDeviceLog d := by
  induction l generalizing s with
  | nil => exact ⟨s.mem, s.deviceLog, rfl⟩
  | cons p l ih =>
    obtain ⟨m, d, h⟩ := ih (s.stored p.1 p.2)
    refine ⟨m, d, ?_⟩
    rw [List.foldl_cons, h, stored_eq]
    rfl

/-! ### The stack -/

/-- A push never stops. -/
theorem push8_ok (s : State) (v : Byte) : s.push8 v = .ok ((s.stored s.sp v).setSp (s.sp - 1)) := by
  simp only [State.push8, write8_ok, ok_bind]

/-- A push of a word never stops. -/
theorem push16_ok (s : State) (v : Word) : s.push16 v = .ok (s.pushed16 v) := by
  have e : s.sp - 1 - 1 = s.sp - 2 := by bv_omega
  simp only [State.push16, push8_ok, ok_bind, State.setSp_sp, stored_setSp, e, State.pushed16]
  rfl

/-- A push of a word touches the bytes at the old SP and below it. -/
theorem accessed_pushed16 (s : State) (v : Word) : s.Accessed (s.pushed16 v) [s.sp, s.sp - 1] :=
  ((accessed_stored s s.sp (loByte v)).trans (accessed_stored _ (s.sp - 1) (hiByte v)) (by simp)).congr
    (by simp [State.pushed16]) (by simp [State.pushed16])

theorem pushed16_eq (s : State) (v : Word) :
    s.pushed16 v = ((s.setMem (s.pushed16 v).mem).setDeviceLog (s.pushed16 v).deviceLog).setSp (s.sp - 2) := by
  simp only [State.pushed16]
  rw [stored_eq, stored_eq s]
  rfl

/-- A pull reads the byte above SP and moves SP there. -/
theorem pull8_eq_ok {s : State} {p : Byte × State} :
    s.pull8 = .ok p ↔ ∃ v, s.read8 (s.sp + 1) = .ok v ∧ p = (v, (s.afterRead (s.sp + 1)).setSp (s.sp + 1)) := by
  simp only [State.pull8, bind_eq_ok, Except.ok.injEq, eq_comm (b := p)]

/-- A pull of a word reads the two bytes above SP, high byte first, and moves SP up by two. -/
theorem pull16_eq_ok {s : State} {p : Word × State} :
    s.pull16 = .ok p ↔ ∃ v, s.read16 (s.sp + 1) = .ok v ∧ p = (v, (s.afterRead16 (s.sp + 1)).setSp (s.sp + 2)) := by
  have e : s.sp + 1 + 1 = s.sp + 2 := by bv_omega
  simp only [State.pull16, bind_eq_ok, pull8_eq_ok, read16_eq_ok, Except.ok.injEq]
  constructor
  · rintro ⟨_, ⟨h, h1, rfl⟩, _, ⟨l, h2, rfl⟩, rfl⟩
    refine ⟨joinBytes h l, ⟨h, l, h1, h2, rfl⟩, ?_⟩
    simp only [State.afterRead16, State.setSp_sp, e]
    rfl
  · rintro ⟨_, ⟨h, l, h1, h2, rfl⟩, rfl⟩
    refine ⟨_, ⟨h, h1, rfl⟩, _, ⟨l, h2, rfl⟩, ?_⟩
    simp only [State.afterRead16, State.setSp_sp, e]
    rfl

/-- What a pull can do: SP one higher; devices see the read. -/
theorem pull8_spec {s : State} {p : Byte × State} (h : s.pull8 = .ok p) :
    s.Accessed p.2 [] ∧ ∃ l, p.2 = (s.setDeviceLog l).setSp (s.sp + 1) := by
  obtain ⟨v, _, rfl⟩ := pull8_eq_ok.1 h
  exact ⟨(accessed_afterRead s (s.sp + 1) []).congr (by simp) (by simp), _, by rw [← s.afterRead_eq (s.sp + 1)]⟩

/-- What a pull of a word can do: SP two higher; devices see the reads. -/
theorem pull16_spec {s : State} {p : Word × State} (h : s.pull16 = .ok p) :
    s.Accessed p.2 [] ∧ ∃ l, p.2 = (s.setDeviceLog l).setSp (s.sp + 2) := by
  obtain ⟨v, _, rfl⟩ := pull16_eq_ok.1 h
  exact ⟨(accessed_afterRead16 s (s.sp + 1) []).congr (by simp) (by simp), _, by rw [← s.afterRead16_eq (s.sp + 1)]⟩

/-! ### Taking an exception and returning -/

/-- The frame's nine bytes go to the nine addresses at and below SP, and SP falls by nine: stacking never stops. -/
theorem pushFrame_ok (s : State) : s.pushFrame = .ok s.framed := by
  have e3 : s.sp - 2 - 1 = s.sp - 3 := by rw [BitVec.sub_sub]; rfl
  have e4 : s.sp - 2 - 2 = s.sp - 4 := by rw [BitVec.sub_sub]; rfl
  have e5 : s.sp - 4 - 1 = s.sp - 5 := by rw [BitVec.sub_sub]; rfl
  have e6 : s.sp - 4 - 2 = s.sp - 6 := by rw [BitVec.sub_sub]; rfl
  have e7 : s.sp - 6 - 1 = s.sp - 7 := by rw [BitVec.sub_sub]; rfl
  have e8 : s.sp - 7 - 1 = s.sp - 8 := by rw [BitVec.sub_sub]; rfl
  have e9 : s.sp - 8 - 1 = s.sp - 9 := by rw [BitVec.sub_sub]; rfl
  simp only [State.pushFrame, push16_ok, push8_ok, ok_bind, State.pushed16, State.framed, State.frameAddresses,
    State.frameBytes, List.zip_cons_cons, List.zip_nil_right, List.foldl_cons, List.foldl_nil, stored_setSp,
    State.setSp_setSp, State.setSp_sp, e3, e4, e5, e6, e7, e8, e9]

/-- Stacking the frame touches memory, the devices and SP. -/
theorem framed_eq (s : State) :
    s.framed = ((s.setMem s.framed.mem).setDeviceLog s.framed.deviceLog).setSp (s.sp - 9) := by
  obtain ⟨m, d, h⟩ := stores_eq (s.frameAddresses.zip s.frameBytes) s
  unfold State.framed
  rw [h]
  rfl

@[simp] theorem framed_a (s : State) : s.framed.a = s.a := by
  rw [framed_eq, State.setSp_a, State.setDeviceLog_a, State.setMem_a]
@[simp] theorem framed_b (s : State) : s.framed.b = s.b := by
  rw [framed_eq, State.setSp_b, State.setDeviceLog_b, State.setMem_b]
@[simp] theorem framed_ix (s : State) : s.framed.ix = s.ix := by
  rw [framed_eq, State.setSp_ix, State.setDeviceLog_ix, State.setMem_ix]
@[simp] theorem framed_iy (s : State) : s.framed.iy = s.iy := by
  rw [framed_eq, State.setSp_iy, State.setDeviceLog_iy, State.setMem_iy]
@[simp] theorem framed_pc (s : State) : s.framed.pc = s.pc := by
  rw [framed_eq, State.setSp_pc, State.setDeviceLog_pc, State.setMem_pc]
@[simp] theorem framed_ccr (s : State) : s.framed.ccr = s.ccr := by
  rw [framed_eq, State.setSp_ccr, State.setDeviceLog_ccr, State.setMem_ccr]
@[simp] theorem framed_runState (s : State) : s.framed.runState = s.runState := by
  rw [framed_eq, State.setSp_runState, State.setDeviceLog_runState, State.setMem_runState]
@[simp] theorem framed_iDelay (s : State) : s.framed.iDelay = s.iDelay := by
  rw [framed_eq, State.setSp_iDelay, State.setDeviceLog_iDelay, State.setMem_iDelay]
@[simp] theorem framed_pending (s : State) : s.framed.pending = s.pending := by
  rw [framed_eq, State.setSp_pending, State.setDeviceLog_pending, State.setMem_pending]
@[simp] theorem framed_inputs (s : State) : s.framed.inputs = s.inputs := by
  rw [framed_eq, State.setSp_inputs, State.setDeviceLog_inputs, State.setMem_inputs]
@[simp] theorem framed_draws (s : State) : s.framed.draws = s.draws := by
  rw [framed_eq, State.setSp_draws, State.setDeviceLog_draws, State.setMem_draws]
@[simp] theorem framed_params (s : State) : s.framed.params = s.params := by
  rw [framed_eq, State.setSp_params, State.setDeviceLog_params, State.setMem_params]
@[simp] theorem framed_sp (s : State) : s.framed.sp = s.sp - 9 := rfl
@[simp] theorem framed_kind (s : State) (x : Word) : s.framed.kind x = s.kind x := by
  rw [framed_eq, State.setSp_kind, State.setDeviceLog_kind, State.setMem_kind]

/-- The frame is stored at its nine addresses alone. -/
theorem accessed_framed (s : State) : s.Accessed s.framed s.frameAddresses := by
  have h := accessed_stores (s.frameAddresses.zip s.frameBytes) s
  have e : (s.frameAddresses.zip s.frameBytes).map (·.1) = s.frameAddresses := rfl
  rw [e] at h
  exact h.congr (by rw [State.framed, State.setSp_mem]) (by rw [State.framed, State.setSp_deviceLog])

/-- A frame in RAM is no event of a device. -/
theorem framed_deviceLog {s : State} (h : s.FrameInRam) : s.framed.deviceLog = s.deviceLog := by
  have key : ∀ (l : List (Word × Byte)) (u : State), (∀ p ∈ l, u.kind p.1 = .ram) →
      (l.foldl (fun t p => t.stored p.1 p.2) u).deviceLog = u.deviceLog := by
    intro l
    induction l with
    | nil => exact fun _ _ => rfl
    | cons p l ih =>
      intro u hu
      rw [List.foldl_cons, ih, stored_ram _ (hu p (by simp))]
      · rfl
      · intro q hq
        rw [stored_kind]
        exact hu q (by simp [hq])
  have e : s.framed.deviceLog =
      ((s.frameAddresses.zip s.frameBytes).foldl (fun t p => t.stored p.1 p.2) s).deviceLog := by
    unfold State.framed
    rw [State.setSp_deviceLog]
  refine e.trans (key _ _ fun p hp => h _ ?_)
  exact (List.mem_map_of_mem hp : p.1 ∈ (s.frameAddresses.zip s.frameBytes).map (·.1))

/-- What is read from a frame in RAM and around it. -/
theorem framed_read8 {s : State} (h : s.FrameInRam) (x : Word) :
    s.framed.read8 x =
      if x = s.sp - 8 then .ok s.ccr.toByte else if x = s.sp - 7 then .ok s.b else if x = s.sp - 6 then .ok s.a
      else if x = s.sp - 5 then .ok (hiByte s.ix) else if x = s.sp - 4 then .ok (loByte s.ix)
      else if x = s.sp - 3 then .ok (hiByte s.iy) else if x = s.sp - 2 then .ok (loByte s.iy)
      else if x = s.sp - 1 then .ok (hiByte s.pc) else if x = s.sp then .ok (loByte s.pc) else s.read8 x := by
  have k : ∀ (u : State) (y : Word), y ∈ s.frameAddresses → (∀ z, u.kind z = s.kind z) → u.kind y = .ram :=
    fun u y hy hu => (hu y).trans (h y hy)
  unfold State.framed
  rw [State.setSp_read8]
  simp only [State.frameAddresses, State.frameBytes, List.zip_cons_cons, List.zip_nil_right, List.foldl_cons,
    List.foldl_nil]
  rw [stored_read8_ram, stored_read8_ram, stored_read8_ram, stored_read8_ram, stored_read8_ram, stored_read8_ram,
    stored_read8_ram, stored_read8_ram, stored_read8_ram]
  all_goals exact k _ _ (by simp [State.frameAddresses]) (by simp)

/-- A frame in RAM stands in memory as the entry describes it. -/
theorem framed_stacked {s : State} (h : s.FrameInRam) : s.Stacked s.framed := by
  have ne : ∀ a b : Word, a ≠ b → s.sp - a ≠ s.sp - b := fun a b h e => h (by bv_omega)
  have ne0 : ∀ b : Word, b ≠ 0 → s.sp ≠ s.sp - b := fun b h e => h (by bv_omega)
  refine ⟨framed_sp s, ?_, ?_, ?_, ?_, ?_, ?_, ?_, ?_, ?_, fun x hx => by simp [h x hx], fun x hx hk =>
    (accessed_framed s).read8 (framed_params s) hx hk⟩
  all_goals rw [framed_read8 h]
  all_goals repeat rw [if_neg (by first | exact ne _ _ (by decide) | exact ne0 _ (by decide))]
  all_goals exact if_pos rfl

/-- A vector outside a frame in RAM reads the same once the frame is stacked. -/
theorem framed_read16 {s : State} {x : Word} (h : s.FrameInRam) (h0 : x ∉ s.frameAddresses)
    (h1 : x + 1 ∉ s.frameAddresses) : s.framed.read16 x = s.read16 x := by
  have e : s.framed.read8 x = s.read8 x :=
    read8_congr ((accessed_framed s).memory.frame x h0) (framed_deviceLog h) (framed_params s)
  have e' : (s.framed.afterRead x).read8 (x + 1) = (s.afterRead x).read8 (x + 1) := by
    refine read8_congr ?_ ?_ (by rw [State.afterRead_params, State.afterRead_params, framed_params])
    · rw [State.afterRead_mem, State.afterRead_mem, (accessed_framed s).memory.frame _ h1]
    simp only [State.afterRead, State.logAfterRead, framed_kind, framed_deviceLog h, State.setDeviceLog_deviceLog]
  simp only [State.read16, e, e']

/-- Entering a handler reads the vector and changes the masks, PC, IDelay and the run state. -/
theorem enterHandler_eq_ok {s t : State} {src : Source} :
    s.enterHandler src = .ok t ↔ ∃ h, s.read16 (vectorAddress s.params.vectors src) = .ok h ∧ t = s.handled src h := by
  simp only [State.enterHandler, bind_eq_ok, Except.ok.injEq, eq_comm (b := t)]
  rfl

/-- What an exception entry does: the frame, then the handler of the vector. -/
theorem takeException_eq (s : State) (src : Source) : s.takeException src = s.framed.enterHandler src := by
  simp only [State.takeException, pushFrame_ok, ok_bind]

/-- An entry succeeds exactly when the vector can be read once the frame is stacked. -/
theorem takeException_eq_ok {s t : State} {src : Source} :
    s.takeException src = .ok t ↔
      ∃ h, s.framed.read16 (vectorAddress s.params.vectors src) = .ok h ∧ t = s.framed.handled src h := by
  rw [takeException_eq, enterHandler_eq_ok, framed_params]

/-- A handler's entry touches no memory and lets devices see at most the read of the vector. -/
theorem accessed_handled (s : State) (src : Source) (h : Word) (as : List Word) : s.Accessed (s.handled src h) as :=
  (accessed_afterRead16 s (vectorAddress s.params.vectors src) as).congr (by simp [State.handled]) (by simp [State.handled])

/-- What a return from an exception can do: six registers, SP nine higher, X only downward; devices see reads. -/
theorem returnFromInterrupt_spec {s t : State} (h : s.returnFromInterrupt = .ok t) :
    ∃ l f a b ix iy pc, t = (((((((s.setDeviceLog l).setSp (s.sp + 9)).setCcr (s.ccr.load f)).setB b).setA a).setIx
      ix).setIy iy).setPc pc ∧ s.Accessed t [] := by
  obtain ⟨p1, h1, h⟩ := bind_eq_ok.1 h
  obtain ⟨p2, h2, h⟩ := bind_eq_ok.1 h
  obtain ⟨p3, h3, h⟩ := bind_eq_ok.1 h
  obtain ⟨p4, h4, h⟩ := bind_eq_ok.1 h
  obtain ⟨p5, h5, h⟩ := bind_eq_ok.1 h
  obtain ⟨p6, h6, h⟩ := bind_eq_ok.1 h
  obtain ⟨k1, l1, e1⟩ := pull8_spec h1
  obtain ⟨k2, l2, e2⟩ := pull8_spec h2
  obtain ⟨k3, l3, e3⟩ := pull8_spec h3
  obtain ⟨k4, l4, e4⟩ := pull16_spec h4
  obtain ⟨k5, l5, e5⟩ := pull16_spec h5
  obtain ⟨k6, l6, e6⟩ := pull16_spec h6
  have q1 : p1.2.params = s.params := by rw [e1]; rfl
  have q2 : p2.2.params = s.params := by rw [e2, ← q1]; rfl
  have q3 : p3.2.params = s.params := by rw [e3, ← q2]; rfl
  have q4 : p4.2.params = s.params := by rw [e4, ← q3]; rfl
  have q5 : p5.2.params = s.params := by rw [e5, ← q4]; rfl
  have k : s.Accessed p6.2 [] := ((((k1.trans k2 q1).trans k3 q2).trans k4 q3).trans k5 q4).trans k6 q5
  cases h
  have e : s.sp + 1 + 1 + 1 + 2 + 2 + 2 = s.sp + 9 := by simp only [BitVec.add_assoc]; rfl
  have f : p6.2 = (s.setDeviceLog l6).setSp (s.sp + 9) := by
    have c : ∀ (u : State) (x y : Word) (l : List DeviceEvent),
        ((u.setSp x).setDeviceLog l).setSp y = (u.setDeviceLog l).setSp y := fun _ _ _ _ => rfl
    simp only [e6, e5, e4, e3, e2, e1, c, State.setSp_sp, State.setDeviceLog_setDeviceLog, e]
  refine ⟨l6, p1.1, p3.1, p2.1, p4.1, p5.1, p6.1, ?_, ?_⟩
  · rw [← f]
  · exact k.congr (by simp) (by simp)

/-- A return from an exception is nine reads above SP, in rising order, and the registers from their bytes. -/
theorem returnFromInterrupt_eq (s : State) :
    s.returnFromInterrupt = (s.readNth (s.sp + 1) 0 >>= fun f => s.readNth (s.sp + 1) 1 >>= fun b =>
      s.readNth (s.sp + 1) 2 >>= fun a => s.readNth (s.sp + 1) 3 >>= fun xh => s.readNth (s.sp + 1) 4 >>= fun xl =>
      s.readNth (s.sp + 1) 5 >>= fun yh => s.readNth (s.sp + 1) 6 >>= fun yl => s.readNth (s.sp + 1) 7 >>= fun ph =>
      s.readNth (s.sp + 1) 8 >>= fun pl =>
      .ok ((((((((s.afterReads (s.sp + 1) 9).setSp (s.sp + 9)).setCcr (s.ccr.load f)).setB b).setA a).setIx
        (joinBytes xh xl)).setIy (joinBytes yh yl)).setPc (joinBytes ph pl))) := by
  have assoc : ∀ {α β γ : Type} (x : Except Stop α) (f : α → Except Stop β) (g : β → Except Stop γ),
      ((x >>= f) >>= g) = (x >>= fun a => f a >>= g) := fun x _ _ => by cases x <;> rfl
  have pull : ∀ (k : Nat) (u : State), u = (s.afterReads (s.sp + 1) k).setSp (s.sp + BitVec.ofNat 16 k) →
      u.pull8 = (s.readNth (s.sp + 1) k >>= fun v =>
        .ok (v, (s.afterReads (s.sp + 1) (k + 1)).setSp (s.sp + BitVec.ofNat 16 (k + 1)))) := by
    intro k u hu
    have e : u.sp + 1 = s.sp + 1 + BitVec.ofNat 16 k := by
      rw [hu, State.setSp_sp, BitVec.add_assoc, BitVec.add_comm (BitVec.ofNat 16 k), ← BitVec.add_assoc]
    have e' : s.sp + 1 + BitVec.ofNat 16 k = s.sp + BitVec.ofNat 16 (k + 1) := by
      rw [BitVec.add_assoc]
      congr 1
      apply BitVec.eq_of_toNat_eq
      simp [Nat.add_comm]
    simp only [State.pull8, e]
    rw [hu, State.setSp_read8, ← e']
    rfl
  simp only [State.returnFromInterrupt, State.pull16, assoc]
  rw [pull 0 s (by simp only [State.afterReads, BitVec.add_zero]; rfl)]
  simp only [assoc, ok_bind]
  congr 1; funext f
  rw [pull 1 _ rfl]; simp only [assoc, ok_bind]
  congr 1; funext b
  rw [pull 2 _ rfl]; simp only [assoc, ok_bind]
  congr 1; funext a
  rw [pull 3 _ rfl]; simp only [assoc, ok_bind]
  congr 1; funext xh
  rw [pull 4 _ rfl]; simp only [assoc, ok_bind]
  congr 1; funext xl
  rw [pull 5 _ rfl]; simp only [assoc, ok_bind]
  congr 1; funext yh
  rw [pull 6 _ rfl]; simp only [assoc, ok_bind]
  congr 1; funext yl
  rw [pull 7 _ rfl]; simp only [assoc, ok_bind]
  congr 1; funext ph
  rw [pull 8 _ rfl]; simp only [assoc, ok_bind, Nat.reduceAdd]
  rfl

/-- A reset keeps memory, the parameters and the environment, and leaves the masks set and the machine running. -/
theorem resetStep_spec {s t : State} {r : ResetSource} (h : s.resetStep r = .ok t) :
    (s.noteDevice (.reset r)).read16 (vectorAddress s.params.vectors (.reset r)) = .ok t.pc ∧
      t.ccr = resetFlags (s.draws + 5) ∧ t.runState = .running ∧ t.iDelay = false ∧ t.mem = s.mem ∧ t.params = s.params ∧
      t.pending = s.pending ∧ t.inputs = s.inputs ∧ t.draws = s.draws + resetDraws ∧
      t.deviceLog = ((s.noteDevice (.reset r)).afterRead16 (vectorAddress s.params.vectors (.reset r))).deviceLog := by
  obtain ⟨pc, h1, h2⟩ := bind_eq_ok.1 h
  cases h2
  exact ⟨h1, rfl, rfl, rfl, rfl, rfl, rfl, rfl, rfl, rfl⟩

/-! ### Which request is served -/

/-- The request served stands, exists on the platform, and can be served. -/
theorem firstInterrupt_spec {s : State} {can : IntSource → Bool} {i : IntSource} (h : s.firstInterrupt can = some i) :
    .interrupt i ∈ s.params.priority ∧ .interrupt i ∈ s.pending ∧ can i = true := by
  obtain ⟨x, hx, hi⟩ := List.exists_of_findSome?_eq_some h
  cases x with
  | interrupt j =>
    simp only [Bool.cond_eq_ite, Option.ite_none_right_eq_some, Bool.and_eq_true, decide_eq_true_eq,
      Option.some.injEq] at hi
    obtain ⟨⟨hp, hc⟩, rfl⟩ := hi
    exact ⟨hx, hp, hc⟩
  | reset _ | illop | swi => cases hi

/-- No request is served when none that stands can be. -/
theorem firstInterrupt_eq_none {s : State} {can : IntSource → Bool} (h : ∀ i, .interrupt i ∈ s.pending → can i = false) :
    s.firstInterrupt can = none := by
  rw [State.firstInterrupt, List.findSome?_eq_none_iff]
  intro x _
  cases x with
  | interrupt i =>
    by_cases hi : .interrupt i ∈ s.pending
    · simp [h i hi]
    · simp [hi]
  | reset _ | illop | swi => rfl

/-- The chosen request stands, exists on the platform and is not masked. -/
theorem chosen_spec {s : State} {i : IntSource} (h : s.chosen = some i) :
    .interrupt i ∈ s.params.priority ∧ .interrupt i ∈ s.pending ∧ s.unmasked i = true := firstInterrupt_spec h

/-- No request is chosen when every standing request is masked. -/
theorem chosen_eq_none {s : State} (h : ∀ i, .interrupt i ∈ s.pending → s.unmasked i = false) : s.chosen = none :=
  firstInterrupt_eq_none h

/-- The request that ends STOP stands, exists on the platform, and is one that can. -/
theorem chosenInStop_spec {s : State} {i : IntSource} (h : s.chosenInStop = some i) :
    .interrupt i ∈ s.params.priority ∧ .interrupt i ∈ s.pending ∧ s.endsStop i = true := firstInterrupt_spec h

/-- The reset that acts is presented and exists on the platform. -/
theorem presentedReset_spec {s : State} {r : ResetSource} (h : s.presentedReset = some r) :
    .reset r ∈ s.params.priority ∧ s.presentsReset r = true := by
  obtain ⟨x, hx, hr⟩ := List.exists_of_findSome?_eq_some h
  cases x with
  | reset q =>
    simp only [Bool.cond_eq_ite, Option.ite_none_right_eq_some, Option.some.injEq] at hr
    obtain ⟨hp, rfl⟩ := hr
    exact ⟨hx, hp⟩
  | interrupt _ | illop | swi => cases hr

/-- No reset acts when none is presented. -/
theorem presentedReset_eq_none {s : State} (h : ∀ r, s.presentsReset r = false) : s.presentedReset = none := by
  rw [State.presentedReset, List.findSome?_eq_none_iff]
  intro x _
  cases x with
  | reset r => simp [h r]
  | interrupt _ | illop | swi => rfl

/-- XIRQ ends STOP when X is clear and IRQ when I is; no other request does (60_exceptions.md R437(b), (d)). -/
theorem endsStop_iff {s : State} {i : IntSource} :
    s.endsStop i = true ↔ i = .xirq ∧ s.ccr.x = false ∨ i = .irq ∧ s.ccr.i = false := by
  cases i <;> simp [State.endsStop]

end Sys2Proof.Machine
end

