-- ==== Sys2Proof/Laws/PerInstr.lean ====
section
/-! SUPPORT. The family EncodedLength, one lemma for each constructor: the bytes the encoder writes are as many as the
Bytes column of Table 10-1 gives the form, the second names encode as the first, and the first name of a form is a form. -/

namespace Sys2Proof.Laws.EncodedLength

/-- A well-formed instruction encodes to as many bytes as its row of Table 10-1 says (30_encoding.md R121), and its first
name is well formed and encodes to the same bytes (R122). -/
def Statement (i : Instr) : Prop :=
  i.WF → i.timing.map (·.bytes) = some (encode i).length ∧ i.firstName.WF ∧ encode i.firstName = encode i

theorem ldaa (src : Src8) : Statement (.ldaa src) := by
  rcases src with _ | m
  · exact fun _ => ⟨rfl, rfl, rfl⟩
  · cases m <;> exact fun _ => ⟨rfl, rfl, rfl⟩

theorem ldab (src : Src8) : Statement (.ldab src) := by
  rcases src with _ | m
  · exact fun _ => ⟨rfl, rfl, rfl⟩
  · cases m <;> exact fun _ => ⟨rfl, rfl, rfl⟩

theorem ldd (src : Src16) : Statement (.ldd src) := by
  rcases src with _ | m
  · exact fun _ => ⟨rfl, rfl, rfl⟩
  · cases m <;> exact fun _ => ⟨rfl, rfl, rfl⟩

theorem lds (src : Src16) : Statement (.lds src) := by
  rcases src with _ | m
  · exact fun _ => ⟨rfl, rfl, rfl⟩
  · cases m <;> exact fun _ => ⟨rfl, rfl, rfl⟩

theorem ldx (src : Src16) : Statement (.ldx src) := by
  rcases src with _ | m
  · exact fun _ => ⟨rfl, rfl, rfl⟩
  · cases m <;> exact fun _ => ⟨rfl, rfl, rfl⟩

theorem ldy (src : Src16) : Statement (.ldy src) := by
  rcases src with _ | m
  · exact fun _ => ⟨rfl, rfl, rfl⟩
  · cases m <;> exact fun _ => ⟨rfl, rfl, rfl⟩

theorem staa (m : Addr) : Statement (.staa m) := by
  cases m <;> exact fun _ => ⟨rfl, rfl, rfl⟩

theorem stab (m : Addr) : Statement (.stab m) := by
  cases m <;> exact fun _ => ⟨rfl, rfl, rfl⟩

theorem std (m : Addr) : Statement (.std m) := by
  cases m <;> exact fun _ => ⟨rfl, rfl, rfl⟩

theorem sts (m : Addr) : Statement (.sts m) := by
  cases m <;> exact fun _ => ⟨rfl, rfl, rfl⟩

theorem stx (m : Addr) : Statement (.stx m) := by
  cases m <;> exact fun _ => ⟨rfl, rfl, rfl⟩

theorem sty (m : Addr) : Statement (.sty m) := by
  cases m <;> exact fun _ => ⟨rfl, rfl, rfl⟩

theorem tab : Statement (.tab) := fun _ => ⟨rfl, rfl, rfl⟩

theorem tba : Statement (.tba) := fun _ => ⟨rfl, rfl, rfl⟩

theorem tsx : Statement (.tsx) := fun _ => ⟨rfl, rfl, rfl⟩

theorem tsy : Statement (.tsy) := fun _ => ⟨rfl, rfl, rfl⟩

theorem txs : Statement (.txs) := fun _ => ⟨rfl, rfl, rfl⟩

theorem tys : Statement (.tys) := fun _ => ⟨rfl, rfl, rfl⟩

theorem xgdx : Statement (.xgdx) := fun _ => ⟨rfl, rfl, rfl⟩

theorem xgdy : Statement (.xgdy) := fun _ => ⟨rfl, rfl, rfl⟩

theorem clr (m : Addr) : Statement (.clr m) := by
  cases m <;> first | exact fun _ => ⟨rfl, rfl, rfl⟩ | exact fun h => nomatch h

theorem clra : Statement (.clra) := fun _ => ⟨rfl, rfl, rfl⟩

theorem clrb : Statement (.clrb) := fun _ => ⟨rfl, rfl, rfl⟩

theorem psha : Statement (.psha) := fun _ => ⟨rfl, rfl, rfl⟩

theorem pshb : Statement (.pshb) := fun _ => ⟨rfl, rfl, rfl⟩

theorem pshx : Statement (.pshx) := fun _ => ⟨rfl, rfl, rfl⟩

theorem pshy : Statement (.pshy) := fun _ => ⟨rfl, rfl, rfl⟩

theorem pula : Statement (.pula) := fun _ => ⟨rfl, rfl, rfl⟩

theorem pulb : Statement (.pulb) := fun _ => ⟨rfl, rfl, rfl⟩

theorem pulx : Statement (.pulx) := fun _ => ⟨rfl, rfl, rfl⟩

theorem puly : Statement (.puly) := fun _ => ⟨rfl, rfl, rfl⟩

theorem des : Statement (.des) := fun _ => ⟨rfl, rfl, rfl⟩

theorem ins : Statement (.ins) := fun _ => ⟨rfl, rfl, rfl⟩

theorem aba : Statement (.aba) := fun _ => ⟨rfl, rfl, rfl⟩

theorem abx : Statement (.abx) := fun _ => ⟨rfl, rfl, rfl⟩

theorem aby : Statement (.aby) := fun _ => ⟨rfl, rfl, rfl⟩

theorem adca (src : Src8) : Statement (.adca src) := by
  rcases src with _ | m
  · exact fun _ => ⟨rfl, rfl, rfl⟩
  · cases m <;> exact fun _ => ⟨rfl, rfl, rfl⟩

theorem adcb (src : Src8) : Statement (.adcb src) := by
  rcases src with _ | m
  · exact fun _ => ⟨rfl, rfl, rfl⟩
  · cases m <;> exact fun _ => ⟨rfl, rfl, rfl⟩

theorem adda (src : Src8) : Statement (.adda src) := by
  rcases src with _ | m
  · exact fun _ => ⟨rfl, rfl, rfl⟩
  · cases m <;> exact fun _ => ⟨rfl, rfl, rfl⟩

theorem addb (src : Src8) : Statement (.addb src) := by
  rcases src with _ | m
  · exact fun _ => ⟨rfl, rfl, rfl⟩
  · cases m <;> exact fun _ => ⟨rfl, rfl, rfl⟩

theorem addd (src : Src16) : Statement (.addd src) := by
  rcases src with _ | m
  · exact fun _ => ⟨rfl, rfl, rfl⟩
  · cases m <;> exact fun _ => ⟨rfl, rfl, rfl⟩

theorem sba : Statement (.sba) := fun _ => ⟨rfl, rfl, rfl⟩

theorem sbca (src : Src8) : Statement (.sbca src) := by
  rcases src with _ | m
  · exact fun _ => ⟨rfl, rfl, rfl⟩
  · cases m <;> exact fun _ => ⟨rfl, rfl, rfl⟩

theorem sbcb (src : Src8) : Statement (.sbcb src) := by
  rcases src with _ | m
  · exact fun _ => ⟨rfl, rfl, rfl⟩
  · cases m <;> exact fun _ => ⟨rfl, rfl, rfl⟩

theorem suba (src : Src8) : Statement (.suba src) := by
  rcases src with _ | m
  · exact fun _ => ⟨rfl, rfl, rfl⟩
  · cases m <;> exact fun _ => ⟨rfl, rfl, rfl⟩

theorem subb (src : Src8) : Statement (.subb src) := by
  rcases src with _ | m
  · exact fun _ => ⟨rfl, rfl, rfl⟩
  · cases m <;> exact fun _ => ⟨rfl, rfl, rfl⟩

theorem subd (src : Src16) : Statement (.subd src) := by
  rcases src with _ | m
  · exact fun _ => ⟨rfl, rfl, rfl⟩
  · cases m <;> exact fun _ => ⟨rfl, rfl, rfl⟩

theorem cba : Statement (.cba) := fun _ => ⟨rfl, rfl, rfl⟩

theorem cmpa (src : Src8) : Statement (.cmpa src) := by
  rcases src with _ | m
  · exact fun _ => ⟨rfl, rfl, rfl⟩
  · cases m <;> exact fun _ => ⟨rfl, rfl, rfl⟩

theorem cmpb (src : Src8) : Statement (.cmpb src) := by
  rcases src with _ | m
  · exact fun _ => ⟨rfl, rfl, rfl⟩
  · cases m <;> exact fun _ => ⟨rfl, rfl, rfl⟩

theorem cpd (src : Src16) : Statement (.cpd src) := by
  rcases src with _ | m
  · exact fun _ => ⟨rfl, rfl, rfl⟩
  · cases m <;> exact fun _ => ⟨rfl, rfl, rfl⟩

theorem cpx (src : Src16) : Statement (.cpx src) := by
  rcases src with _ | m
  · exact fun _ => ⟨rfl, rfl, rfl⟩
  · cases m <;> exact fun _ => ⟨rfl, rfl, rfl⟩

theorem cpy (src : Src16) : Statement (.cpy src) := by
  rcases src with _ | m
  · exact fun _ => ⟨rfl, rfl, rfl⟩
  · cases m <;> exact fun _ => ⟨rfl, rfl, rfl⟩

theorem neg (m : Addr) : Statement (.neg m) := by
  cases m <;> first | exact fun _ => ⟨rfl, rfl, rfl⟩ | exact fun h => nomatch h

theorem nega : Statement (.nega) := fun _ => ⟨rfl, rfl, rfl⟩

theorem negb : Statement (.negb) := fun _ => ⟨rfl, rfl, rfl⟩

theorem inc (m : Addr) : Statement (.inc m) := by
  cases m <;> first | exact fun _ => ⟨rfl, rfl, rfl⟩ | exact fun h => nomatch h

theorem inca : Statement (.inca) := fun _ => ⟨rfl, rfl, rfl⟩

theorem incb : Statement (.incb) := fun _ => ⟨rfl, rfl, rfl⟩

theorem dec (m : Addr) : Statement (.dec m) := by
  cases m <;> first | exact fun _ => ⟨rfl, rfl, rfl⟩ | exact fun h => nomatch h

theorem deca : Statement (.deca) := fun _ => ⟨rfl, rfl, rfl⟩

theorem decb : Statement (.decb) := fun _ => ⟨rfl, rfl, rfl⟩

theorem inx : Statement (.inx) := fun _ => ⟨rfl, rfl, rfl⟩

theorem iny : Statement (.iny) := fun _ => ⟨rfl, rfl, rfl⟩

theorem dex : Statement (.dex) := fun _ => ⟨rfl, rfl, rfl⟩

theorem dey : Statement (.dey) := fun _ => ⟨rfl, rfl, rfl⟩

theorem tst (m : Addr) : Statement (.tst m) := by
  cases m <;> first | exact fun _ => ⟨rfl, rfl, rfl⟩ | exact fun h => nomatch h

theorem tsta : Statement (.tsta) := fun _ => ⟨rfl, rfl, rfl⟩

theorem tstb : Statement (.tstb) := fun _ => ⟨rfl, rfl, rfl⟩

theorem daa : Statement (.daa) := fun _ => ⟨rfl, rfl, rfl⟩

theorem mul : Statement (.mul) := fun _ => ⟨rfl, rfl, rfl⟩

theorem idiv : Statement (.idiv) := fun _ => ⟨rfl, rfl, rfl⟩

theorem fdiv : Statement (.fdiv) := fun _ => ⟨rfl, rfl, rfl⟩

theorem anda (src : Src8) : Statement (.anda src) := by
  rcases src with _ | m
  · exact fun _ => ⟨rfl, rfl, rfl⟩
  · cases m <;> exact fun _ => ⟨rfl, rfl, rfl⟩

theorem andb (src : Src8) : Statement (.andb src) := by
  rcases src with _ | m
  · exact fun _ => ⟨rfl, rfl, rfl⟩
  · cases m <;> exact fun _ => ⟨rfl, rfl, rfl⟩

theorem bita (src : Src8) : Statement (.bita src) := by
  rcases src with _ | m
  · exact fun _ => ⟨rfl, rfl, rfl⟩
  · cases m <;> exact fun _ => ⟨rfl, rfl, rfl⟩

theorem bitb (src : Src8) : Statement (.bitb src) := by
  rcases src with _ | m
  · exact fun _ => ⟨rfl, rfl, rfl⟩
  · cases m <;> exact fun _ => ⟨rfl, rfl, rfl⟩

theorem eora (src : Src8) : Statement (.eora src) := by
  rcases src with _ | m
  · exact fun _ => ⟨rfl, rfl, rfl⟩
  · cases m <;> exact fun _ => ⟨rfl, rfl, rfl⟩

theorem eorb (src : Src8) : Statement (.eorb src) := by
  rcases src with _ | m
  · exact fun _ => ⟨rfl, rfl, rfl⟩
  · cases m <;> exact fun _ => ⟨rfl, rfl, rfl⟩

theorem oraa (src : Src8) : Statement (.oraa src) := by
  rcases src with _ | m
  · exact fun _ => ⟨rfl, rfl, rfl⟩
  · cases m <;> exact fun _ => ⟨rfl, rfl, rfl⟩

theorem orab (src : Src8) : Statement (.orab src) := by
  rcases src with _ | m
  · exact fun _ => ⟨rfl, rfl, rfl⟩
  · cases m <;> exact fun _ => ⟨rfl, rfl, rfl⟩

theorem com (m : Addr) : Statement (.com m) := by
  cases m <;> first | exact fun _ => ⟨rfl, rfl, rfl⟩ | exact fun h => nomatch h

theorem coma : Statement (.coma) := fun _ => ⟨rfl, rfl, rfl⟩

theorem comb : Statement (.comb) := fun _ => ⟨rfl, rfl, rfl⟩

theorem bclr (m : Addr) (mm : Byte) : Statement (.bclr m mm) := by
  cases m <;> first | exact fun _ => ⟨rfl, rfl, rfl⟩ | exact fun h => nomatch h

theorem bset (m : Addr) (mm : Byte) : Statement (.bset m mm) := by
  cases m <;> first | exact fun _ => ⟨rfl, rfl, rfl⟩ | exact fun h => nomatch h

theorem asl (m : Addr) : Statement (.asl m) := by
  cases m <;> first | exact fun _ => ⟨rfl, rfl, rfl⟩ | exact fun h => nomatch h

theorem asla : Statement (.asla) := fun _ => ⟨rfl, rfl, rfl⟩

theorem aslb : Statement (.aslb) := fun _ => ⟨rfl, rfl, rfl⟩

theorem asld : Statement (.asld) := fun _ => ⟨rfl, rfl, rfl⟩

theorem asr (m : Addr) : Statement (.asr m) := by
  cases m <;> first | exact fun _ => ⟨rfl, rfl, rfl⟩ | exact fun h => nomatch h

theorem asra : Statement (.asra) := fun _ => ⟨rfl, rfl, rfl⟩

theorem asrb : Statement (.asrb) := fun _ => ⟨rfl, rfl, rfl⟩

theorem lsl (m : Addr) : Statement (.lsl m) := by
  cases m <;> first | exact fun _ => ⟨rfl, rfl, rfl⟩ | exact fun h => nomatch h

theorem lsla : Statement (.lsla) := fun _ => ⟨rfl, rfl, rfl⟩

theorem lslb : Statement (.lslb) := fun _ => ⟨rfl, rfl, rfl⟩

theorem lsld : Statement (.lsld) := fun _ => ⟨rfl, rfl, rfl⟩

theorem lsr (m : Addr) : Statement (.lsr m) := by
  cases m <;> first | exact fun _ => ⟨rfl, rfl, rfl⟩ | exact fun h => nomatch h

theorem lsra : Statement (.lsra) := fun _ => ⟨rfl, rfl, rfl⟩

theorem lsrb : Statement (.lsrb) := fun _ => ⟨rfl, rfl, rfl⟩

theorem lsrd : Statement (.lsrd) := fun _ => ⟨rfl, rfl, rfl⟩

theorem rol (m : Addr) : Statement (.rol m) := by
  cases m <;> first | exact fun _ => ⟨rfl, rfl, rfl⟩ | exact fun h => nomatch h

theorem rola : Statement (.rola) := fun _ => ⟨rfl, rfl, rfl⟩

theorem rolb : Statement (.rolb) := fun _ => ⟨rfl, rfl, rfl⟩

theorem ror (m : Addr) : Statement (.ror m) := by
  cases m <;> first | exact fun _ => ⟨rfl, rfl, rfl⟩ | exact fun h => nomatch h

theorem rora : Statement (.rora) := fun _ => ⟨rfl, rfl, rfl⟩

theorem rorb : Statement (.rorb) := fun _ => ⟨rfl, rfl, rfl⟩

theorem bcc (rr : Byte) : Statement (.bcc rr) := fun _ => ⟨rfl, rfl, rfl⟩

theorem bcs (rr : Byte) : Statement (.bcs rr) := fun _ => ⟨rfl, rfl, rfl⟩

theorem beq (rr : Byte) : Statement (.beq rr) := fun _ => ⟨rfl, rfl, rfl⟩

theorem bge (rr : Byte) : Statement (.bge rr) := fun _ => ⟨rfl, rfl, rfl⟩

theorem bgt (rr : Byte) : Statement (.bgt rr) := fun _ => ⟨rfl, rfl, rfl⟩

theorem bhi (rr : Byte) : Statement (.bhi rr) := fun _ => ⟨rfl, rfl, rfl⟩

theorem bhs (rr : Byte) : Statement (.bhs rr) := fun _ => ⟨rfl, rfl, rfl⟩

theorem ble (rr : Byte) : Statement (.ble rr) := fun _ => ⟨rfl, rfl, rfl⟩

theorem blo (rr : Byte) : Statement (.blo rr) := fun _ => ⟨rfl, rfl, rfl⟩

theorem bls (rr : Byte) : Statement (.bls rr) := fun _ => ⟨rfl, rfl, rfl⟩

theorem blt (rr : Byte) : Statement (.blt rr) := fun _ => ⟨rfl, rfl, rfl⟩

theorem bmi (rr : Byte) : Statement (.bmi rr) := fun _ => ⟨rfl, rfl, rfl⟩

theorem bne (rr : Byte) : Statement (.bne rr) := fun _ => ⟨rfl, rfl, rfl⟩

theorem bpl (rr : Byte) : Statement (.bpl rr) := fun _ => ⟨rfl, rfl, rfl⟩

theorem bra (rr : Byte) : Statement (.bra rr) := fun _ => ⟨rfl, rfl, rfl⟩

theorem brn (rr : Byte) : Statement (.brn rr) := fun _ => ⟨rfl, rfl, rfl⟩

theorem bvc (rr : Byte) : Statement (.bvc rr) := fun _ => ⟨rfl, rfl, rfl⟩

theorem bvs (rr : Byte) : Statement (.bvs rr) := fun _ => ⟨rfl, rfl, rfl⟩

theorem brclr (m : Addr) (mm : Byte) (rr : Byte) : Statement (.brclr m mm rr) := by
  cases m <;> first | exact fun _ => ⟨rfl, rfl, rfl⟩ | exact fun h => nomatch h

theorem brset (m : Addr) (mm : Byte) (rr : Byte) : Statement (.brset m mm rr) := by
  cases m <;> first | exact fun _ => ⟨rfl, rfl, rfl⟩ | exact fun h => nomatch h

theorem jmp (m : Addr) : Statement (.jmp m) := by
  cases m <;> first | exact fun _ => ⟨rfl, rfl, rfl⟩ | exact fun h => nomatch h

theorem jsr (m : Addr) : Statement (.jsr m) := by
  cases m <;> exact fun _ => ⟨rfl, rfl, rfl⟩

theorem bsr (rr : Byte) : Statement (.bsr rr) := fun _ => ⟨rfl, rfl, rfl⟩

theorem rts : Statement (.rts) := fun _ => ⟨rfl, rfl, rfl⟩

theorem clc : Statement (.clc) := fun _ => ⟨rfl, rfl, rfl⟩

theorem cli : Statement (.cli) := fun _ => ⟨rfl, rfl, rfl⟩

theorem clv : Statement (.clv) := fun _ => ⟨rfl, rfl, rfl⟩

theorem sec : Statement (.sec) := fun _ => ⟨rfl, rfl, rfl⟩

theorem sei : Statement (.sei) := fun _ => ⟨rfl, rfl, rfl⟩

theorem sev : Statement (.sev) := fun _ => ⟨rfl, rfl, rfl⟩

theorem tap : Statement (.tap) := fun _ => ⟨rfl, rfl, rfl⟩

theorem tpa : Statement (.tpa) := fun _ => ⟨rfl, rfl, rfl⟩

theorem nop : Statement (.nop) := fun _ => ⟨rfl, rfl, rfl⟩

theorem swi : Statement (.swi) := fun _ => ⟨rfl, rfl, rfl⟩

theorem rti : Statement (.rti) := fun _ => ⟨rfl, rfl, rfl⟩

theorem wai : Statement (.wai) := fun _ => ⟨rfl, rfl, rfl⟩

theorem stop : Statement (.stop) := fun _ => ⟨rfl, rfl, rfl⟩

theorem test : Statement (.test) := fun _ => ⟨rfl, rfl, rfl⟩

end Sys2Proof.Laws.EncodedLength
end

