-- ==== Sys2Proof/Laws/Shapes.lean ====
section
/-! SUPPORT. What each shared instruction shape answers, and what it can do. -/

namespace Sys2Proof.Machine

variable {s t : State}

@[simp] theorem opnd8_imm (ii : Byte) : s.opnd8 (.imm ii) = .ok ii := rfl

@[simp] theorem opnd8_mem (m : Addr) : s.opnd8 (.mem m) = s.read8 (s.ea m) := rfl

@[simp] theorem opnd16_imm (jk : Word) : s.opnd16 (.imm jk) = .ok jk := rfl

@[simp] theorem opnd16_mem (m : Addr) : s.opnd16 (.mem m) = s.read16 (s.ea m) := rfl

@[simp] theorem afterOpnd8_imm (ii : Byte) : s.afterOpnd8 (.imm ii) = s := rfl

@[simp] theorem afterOpnd8_mem (m : Addr) : s.afterOpnd8 (.mem m) = s.afterRead (s.ea m) := rfl

@[simp] theorem afterOpnd16_imm (jk : Word) : s.afterOpnd16 (.imm jk) = s := rfl

@[simp] theorem afterOpnd16_mem (m : Addr) : s.afterOpnd16 (.mem m) = s.afterRead16 (s.ea m) := rfl

/-! ### Shapes with a source operand: they succeed exactly when the operand is readable -/

theorem accOp_eq_ok {r : Acc} {op : Byte → Byte → CCR → Byte × CCR} {src : Src8} :
    s.accOp r op src = .ok t ↔ ∃ m, s.opnd8 src = .ok m ∧
      t = ((s.afterOpnd8 src).setAcc r (op (s.acc r) m s.ccr).1).setCcr (op (s.acc r) m s.ccr).2 := by
  simp only [State.accOp, bind_eq_ok, Except.ok.injEq, eq_comm (b := t), State.afterOpnd8_acc, State.afterOpnd8_ccr]

theorem accTest_eq_ok {r : Acc} {op : Byte → Byte → CCR → CCR} {src : Src8} :
    s.accTest r op src = .ok t ↔ ∃ m, s.opnd8 src = .ok m ∧ t = (s.afterOpnd8 src).setCcr (op (s.acc r) m s.ccr) := by
  simp only [State.accTest, bind_eq_ok, Except.ok.injEq, eq_comm (b := t), State.afterOpnd8_acc, State.afterOpnd8_ccr]

theorem regOp_eq_ok {r : Reg16} {op : Word → Word → CCR → Word × CCR} {src : Src16} :
    s.regOp r op src = .ok t ↔ ∃ m, s.opnd16 src = .ok m ∧
      t = ((s.afterOpnd16 src).setReg16 r (op (s.reg16 r) m s.ccr).1).setCcr (op (s.reg16 r) m s.ccr).2 := by
  simp only [State.regOp, bind_eq_ok, Except.ok.injEq, eq_comm (b := t), State.afterOpnd16_reg16, State.afterOpnd16_ccr]

theorem regTest_eq_ok {r : Reg16} {op : Word → Word → CCR → CCR} {src : Src16} :
    s.regTest r op src = .ok t ↔ ∃ m, s.opnd16 src = .ok m ∧ t = (s.afterOpnd16 src).setCcr (op (s.reg16 r) m s.ccr) := by
  simp only [State.regTest, bind_eq_ok, Except.ok.injEq, eq_comm (b := t), State.afterOpnd16_reg16, State.afterOpnd16_ccr]

theorem loadAcc_eq_ok {r : Acc} {src : Src8} :
    s.loadAcc r src = .ok t ↔ ∃ m, s.opnd8 src = .ok m ∧ t = ((s.afterOpnd8 src).setAcc r m).setCcr (logic8 m s.ccr) := by
  simp only [State.loadAcc, bind_eq_ok, Except.ok.injEq, eq_comm (b := t), State.afterOpnd8_ccr]

theorem loadReg_eq_ok {r : Reg16} {src : Src16} :
    s.loadReg r src = .ok t ↔ ∃ v, s.opnd16 src = .ok v ∧ t = ((s.afterOpnd16 src).setReg16 r v).setCcr (logic16 v s.ccr) := by
  simp only [State.loadReg, bind_eq_ok, Except.ok.injEq, eq_comm (b := t), State.afterOpnd16_ccr]

/-! ### Shapes that store -/

/-- A read-modify-write reads the byte at M, stores there, and sets the flags; it stops exactly where the read does. -/
theorem memUnary_eq_ok {op : Byte → CCR → Byte × CCR} {m : Addr} :
    s.memUnary op m = .ok t ↔ ∃ v, s.read8 (s.ea m) = .ok v ∧
      t = ((s.afterRead (s.ea m)).stored (s.ea m) (op v s.ccr).1).setCcr (op v s.ccr).2 := by
  simp only [State.memUnary, bind_eq_ok, write8_ok, Except.ok.injEq, exists_eq_left', eq_comm (b := t)]

/-- What a read-modify-write touches. -/
theorem accessed_memUnary (a : Word) (v : Byte) (f : CCR) :
    s.Accessed (((s.afterRead a).stored a v).setCcr f) [a] :=
  ((accessed_afterRead s a []).trans (accessed_stored _ a v) (by simp)).congr (by simp) (by simp)

/-- A store of an accumulator never stops. -/
theorem storeAcc_ok (r : Acc) (m : Addr) :
    s.storeAcc r m = .ok ((s.stored (s.ea m) (s.acc r)).setCcr (logic8 (s.acc r) s.ccr)) := by
  simp only [State.storeAcc, write8_ok, ok_bind]

/-- A store of a 16-bit register never stops. -/
theorem storeReg_ok (r : Reg16) (m : Addr) :
    s.storeReg r m = .ok ((s.stored16 (s.ea m) (s.reg16 r)).setCcr (logic16 (s.reg16 r) s.ccr)) := by
  simp only [State.storeReg, write16_ok, ok_bind]

/-- A call never stops. -/
theorem callTo_ok (target : Word) : s.callTo target = .ok ((s.pushed16 s.pc).setPc target) := by
  simp only [State.callTo, push16_ok, ok_bind]

/-! ### Branches -/

@[simp] theorem branchIf_true (rr : Byte) : s.branchIf true rr = s.setPc (s.relTarget rr) := rfl

@[simp] theorem branchIf_false (rr : Byte) : s.branchIf false rr = s := rfl

@[simp] theorem branchIf_a (c : Bool) (rr : Byte) : (s.branchIf c rr).a = s.a := by cases c <;> rfl
@[simp] theorem branchIf_b (c : Bool) (rr : Byte) : (s.branchIf c rr).b = s.b := by cases c <;> rfl
@[simp] theorem branchIf_ix (c : Bool) (rr : Byte) : (s.branchIf c rr).ix = s.ix := by cases c <;> rfl
@[simp] theorem branchIf_iy (c : Bool) (rr : Byte) : (s.branchIf c rr).iy = s.iy := by cases c <;> rfl
@[simp] theorem branchIf_sp (c : Bool) (rr : Byte) : (s.branchIf c rr).sp = s.sp := by cases c <;> rfl
@[simp] theorem branchIf_ccr (c : Bool) (rr : Byte) : (s.branchIf c rr).ccr = s.ccr := by cases c <;> rfl
@[simp] theorem branchIf_runState (c : Bool) (rr : Byte) : (s.branchIf c rr).runState = s.runState := by cases c <;> rfl
@[simp] theorem branchIf_iDelay (c : Bool) (rr : Byte) : (s.branchIf c rr).iDelay = s.iDelay := by cases c <;> rfl
@[simp] theorem branchIf_mem (c : Bool) (rr : Byte) : (s.branchIf c rr).mem = s.mem := by cases c <;> rfl
@[simp] theorem branchIf_deviceLog (c : Bool) (rr : Byte) : (s.branchIf c rr).deviceLog = s.deviceLog := by cases c <;> rfl
@[simp] theorem branchIf_pending (c : Bool) (rr : Byte) : (s.branchIf c rr).pending = s.pending := by cases c <;> rfl
@[simp] theorem branchIf_inputs (c : Bool) (rr : Byte) : (s.branchIf c rr).inputs = s.inputs := by cases c <;> rfl
@[simp] theorem branchIf_draws (c : Bool) (rr : Byte) : (s.branchIf c rr).draws = s.draws := by cases c <;> rfl
@[simp] theorem branchIf_params (c : Bool) (rr : Byte) : (s.branchIf c rr).params = s.params := by cases c <;> rfl

@[simp] theorem branchIf_read8 (c : Bool) (rr : Byte) (x : Word) : (s.branchIf c rr).read8 x = s.read8 x := by
  cases c <;> rfl

/-- A branch is its PC alone. -/
theorem branchIf_eq (c : Bool) (rr : Byte) : s.branchIf c rr = s.setPc (if c then s.relTarget rr else s.pc) := by
  cases c <;> rfl

end Sys2Proof.Machine
end

