-- ==== Sys2Proof/Tests/Slice0.lean ====
section
/-! SUPPORT. The model's own tests: the smoke tests of well-formedness, one byte string written out from the encoding tables
for each constructor, one step for each instruction from the vectors of 95_test_vectors.md, the events of its section 3, and
one witness for each statement with hypotheses. -/

namespace Sys2Proof.Tests

open Sys2Proof.Machine Sys2Proof.Config

/-- The start state of the vectors (95_test_vectors.md, conventions). -/
def s0 : State := State.reset

/-- Bytes stored from outside the machine. -/
def store (s : State) : List (Word × Byte) → State
  | [] => s
  | p :: rest => store (s.setMem (Memory.write s.mem p.1.toNat p.2)) rest

/-- Instruction bytes at PC. -/
def code (bytes : List Byte) (s : State) : State := s.placeBytes s.pc bytes

/-- The outcome is a next state with this property. -/
def after (o : Host.Outcome State Fault Refusal) (p : State → Bool) : Bool :=
  match o with
  | .next t => p t
  | .fault _ => false
  | .refused _ => false

/-- The state an outcome answers; the reset state when it answers none. -/
def result (o : Host.Outcome State Fault Refusal) : State :=
  match o with
  | .next t => t
  | .fault _ => State.reset
  | .refused _ => State.reset

/-- The byte at an address is this one. -/
def holds (s : State) (a : Word) (v : Byte) : Bool := Memory.read s.mem a.toNat == some v

/-! ### Well-formedness: an ill-formed term for each check -/

/-- No one-operand memory instruction has a direct form (30_encoding.md R112). -/
theorem test_wf_refuses_direct :
    ∀ i ∈ [Instr.clr (.dir 0x40), .neg (.dir 0x40), .inc (.dir 0x40), .dec (.dir 0x40), .tst (.dir 0x40), .com (.dir 0x40),
      .asl (.dir 0x40), .lsl (.dir 0x40), .asr (.dir 0x40), .lsr (.dir 0x40), .rol (.dir 0x40), .ror (.dir 0x40),
      .jmp (.dir 0x40)], ¬ i.WF ∧ i.timing = none := by decide

/-- No bit instruction has an extended form (30_encoding.md R112). -/
theorem test_wf_refuses_extended :
    ∀ i ∈ [Instr.bclr (.ext 0x1234) 1, .bset (.ext 0x1234) 1, .brclr (.ext 0x1234) 1 2, .brset (.ext 0x1234) 1 2],
      ¬ i.WF ∧ i.timing = none := by decide

/-- The neighbouring shapes that have a row are well formed (JSR has a direct form, CLR an extended one). -/
theorem test_wf_accepts :
    ∀ i ∈ [Instr.jsr (.dir 0x40), .clr (.ext 0x0040), .jmp (.indY 1), .bset (.dir 0x40) 1, .brset (.indY 2) 1 2], i.WF := by
  decide

/-! ### Decoding -/

/-- One form of every instruction of 40_load_store_transfer.md, written out from the opcode maps of 30_encoding.md R113 to R116. -/
theorem test_decode_load_store_transfer :
    ∀ p ∈ ([([0x86, 0xA5], .ldaa (.imm 0xA5)), ([0xD6, 0x12], .ldab (.mem (.dir 0x12))),
      ([0xFC, 0x12, 0x34], .ldd (.mem (.ext 0x1234))), ([0xAE, 0x56], .lds (.mem (.indX 0x56))),
      ([0xCD, 0xEE, 0x78], .ldx (.mem (.indY 0x78))), ([0x18, 0xCE, 0xA5, 0xC3], .ldy (.imm 0xA5C3)),
      ([0xA7, 0x56], .staa (.indX 0x56)), ([0x18, 0xE7, 0x78], .stab (.indY 0x78)), ([0xDD, 0x12], .std (.dir 0x12)),
      ([0xBF, 0x12, 0x34], .sts (.ext 0x1234)), ([0xEF, 0x56], .stx (.indX 0x56)),
      ([0x18, 0xEF, 0x78], .sty (.indY 0x78)), ([0x16], .tab), ([0x17], .tba), ([0x30], .tsx), ([0x18, 0x30], .tsy),
      ([0x35], .txs), ([0x18, 0x35], .tys), ([0x8F], .xgdx), ([0x18, 0x8F], .xgdy),
      ([0x18, 0x6F, 0x78], .clr (.indY 0x78)), ([0x4F], .clra), ([0x5F], .clrb)] : List (List Byte × Instr)), decode p.1 = .ok (p.2, p.1.length) := by decide

/-- One form of every instruction of 41_stack.md, written out from the opcode maps of 30_encoding.md R113 to R116. -/
theorem test_decode_stack :
    ∀ p ∈ ([([0x36], .psha), ([0x37], .pshb), ([0x3C], .pshx), ([0x18, 0x3C], .pshy), ([0x32], .pula), ([0x33], .pulb),
      ([0x38], .pulx), ([0x18, 0x38], .puly), ([0x34], .des), ([0x31], .ins)] : List (List Byte × Instr)), decode p.1 = .ok (p.2, p.1.length) := by decide

/-- One form of every instruction of 42_arithmetic.md, written out from the opcode maps of 30_encoding.md R113 to R116. -/
theorem test_decode_arithmetic :
    ∀ p ∈ ([([0x1B], .aba), ([0x3A], .abx), ([0x18, 0x3A], .aby), ([0x99, 0x12], .adca (.mem (.dir 0x12))),
      ([0xF9, 0x12, 0x34], .adcb (.mem (.ext 0x1234))), ([0xAB, 0x56], .adda (.mem (.indX 0x56))),
      ([0x18, 0xEB, 0x78], .addb (.mem (.indY 0x78))), ([0xC3, 0xA5, 0xC3], .addd (.imm 0xA5C3)), ([0x10], .sba),
      ([0xB2, 0x12, 0x34], .sbca (.mem (.ext 0x1234))), ([0xE2, 0x56], .sbcb (.mem (.indX 0x56))),
      ([0x18, 0xA0, 0x78], .suba (.mem (.indY 0x78))), ([0xC0, 0xA5], .subb (.imm 0xA5)),
      ([0x93, 0x12], .subd (.mem (.dir 0x12))), ([0x11], .cba), ([0xA1, 0x56], .cmpa (.mem (.indX 0x56))),
      ([0x18, 0xE1, 0x78], .cmpb (.mem (.indY 0x78))), ([0x1A, 0x83, 0xA5, 0xC3], .cpd (.imm 0xA5C3)),
      ([0x9C, 0x12], .cpx (.mem (.dir 0x12))), ([0x18, 0xBC, 0x12, 0x34], .cpy (.mem (.ext 0x1234))),
      ([0x18, 0x60, 0x78], .neg (.indY 0x78)), ([0x40], .nega), ([0x50], .negb),
      ([0x18, 0x6C, 0x78], .inc (.indY 0x78)), ([0x4C], .inca), ([0x5C], .incb),
      ([0x18, 0x6A, 0x78], .dec (.indY 0x78)), ([0x4A], .deca), ([0x5A], .decb), ([0x08], .inx),
      ([0x18, 0x08], .iny), ([0x09], .dex), ([0x18, 0x09], .dey), ([0x7D, 0x12, 0x34], .tst (.ext 0x1234)),
      ([0x4D], .tsta), ([0x5D], .tstb), ([0x19], .daa)] : List (List Byte × Instr)), decode p.1 = .ok (p.2, p.1.length) := by decide

/-- One form of every instruction of 43_multiply_divide.md, written out from the opcode maps of 30_encoding.md R113 to R116. -/
theorem test_decode_multiply_divide :
    ∀ p ∈ ([([0x3D], .mul), ([0x02], .idiv), ([0x03], .fdiv)] : List (List Byte × Instr)), decode p.1 = .ok (p.2, p.1.length) := by decide

/-- One form of every instruction of 44_logic_bits.md, written out from the opcode maps of 30_encoding.md R113 to R116. -/
theorem test_decode_logic_bits :
    ∀ p ∈ ([([0xA4, 0x56], .anda (.mem (.indX 0x56))), ([0x18, 0xE4, 0x78], .andb (.mem (.indY 0x78))),
      ([0x85, 0xA5], .bita (.imm 0xA5)), ([0xD5, 0x12], .bitb (.mem (.dir 0x12))),
      ([0xB8, 0x12, 0x34], .eora (.mem (.ext 0x1234))), ([0xE8, 0x56], .eorb (.mem (.indX 0x56))),
      ([0x18, 0xAA, 0x78], .oraa (.mem (.indY 0x78))), ([0xCA, 0xA5], .orab (.imm 0xA5)),
      ([0x73, 0x12, 0x34], .com (.ext 0x1234)), ([0x43], .coma), ([0x53], .comb),
      ([0x15, 0x12, 0xBC], .bclr (.dir 0x12) 0xBC), ([0x1C, 0x56, 0xBC], .bset (.indX 0x56) 0xBC)] : List (List Byte × Instr)), decode p.1 = .ok (p.2, p.1.length) := by decide

/-- One form of every instruction of 45_shift_rotate.md, written out from the opcode maps of 30_encoding.md R113 to R116. The second names stand for the first (R122). -/
theorem test_decode_shift_rotate :
    ∀ p ∈ ([([0x18, 0x68, 0x78], .asl (.indY 0x78)), ([0x48], .asla), ([0x58], .aslb), ([0x05], .asld),
      ([0x77, 0x12, 0x34], .asr (.ext 0x1234)), ([0x47], .asra), ([0x57], .asrb),
      ([0x78, 0x12, 0x34], .asl (.ext 0x1234)), ([0x48], .asla), ([0x58], .aslb), ([0x05], .asld),
      ([0x64, 0x56], .lsr (.indX 0x56)), ([0x44], .lsra), ([0x54], .lsrb), ([0x04], .lsrd),
      ([0x18, 0x69, 0x78], .rol (.indY 0x78)), ([0x49], .rola), ([0x59], .rolb),
      ([0x18, 0x66, 0x78], .ror (.indY 0x78)), ([0x46], .rora), ([0x56], .rorb)] : List (List Byte × Instr)), decode p.1 = .ok (p.2, p.1.length) := by decide

/-- One form of every instruction of 46_branch.md, written out from the opcode maps of 30_encoding.md R113 to R116. The second names stand for the first (R122). -/
theorem test_decode_branch :
    ∀ p ∈ ([([0x24, 0x9A], .bcc 0x9A), ([0x25, 0x9A], .bcs 0x9A), ([0x27, 0x9A], .beq 0x9A), ([0x2C, 0x9A], .bge 0x9A),
      ([0x2E, 0x9A], .bgt 0x9A), ([0x22, 0x9A], .bhi 0x9A), ([0x24, 0x9A], .bcc 0x9A), ([0x2F, 0x9A], .ble 0x9A),
      ([0x25, 0x9A], .bcs 0x9A), ([0x23, 0x9A], .bls 0x9A), ([0x2D, 0x9A], .blt 0x9A), ([0x2B, 0x9A], .bmi 0x9A),
      ([0x26, 0x9A], .bne 0x9A), ([0x2A, 0x9A], .bpl 0x9A), ([0x20, 0x9A], .bra 0x9A), ([0x21, 0x9A], .brn 0x9A),
      ([0x28, 0x9A], .bvc 0x9A), ([0x29, 0x9A], .bvs 0x9A),
      ([0x18, 0x1F, 0x78, 0xBC, 0xDE], .brclr (.indY 0x78) 0xBC 0xDE),
      ([0x12, 0x12, 0xBC, 0xDE], .brset (.dir 0x12) 0xBC 0xDE)] : List (List Byte × Instr)), decode p.1 = .ok (p.2, p.1.length) := by decide

/-- One form of every instruction of 47_jump_subroutine.md, written out from the opcode maps of 30_encoding.md R113 to R116. -/
theorem test_decode_jump_subroutine :
    ∀ p ∈ ([([0x6E, 0x56], .jmp (.indX 0x56)), ([0x9D, 0x12], .jsr (.dir 0x12)), ([0x8D, 0x9A], .bsr 0x9A), ([0x39], .rts)] : List (List Byte × Instr)), decode p.1 = .ok (p.2, p.1.length) := by decide

/-- One form of every instruction of 48_ccr_system.md, written out from the opcode maps of 30_encoding.md R113 to R116. -/
theorem test_decode_ccr_system :
    ∀ p ∈ ([([0x0C], .clc), ([0x0E], .cli), ([0x0A], .clv), ([0x0D], .sec), ([0x0F], .sei), ([0x0B], .sev), ([0x06], .tap),
      ([0x07], .tpa), ([0x01], .nop), ([0x3F], .swi), ([0x3B], .rti), ([0x3E], .wai), ([0xCF], .stop),
      ([0x00], .test)] : List (List Byte × Instr)), decode p.1 = .ok (p.2, p.1.length) := by decide

/-- Bit by bit, one instruction of each family: LDAA #, PSHA, ADDD IND,X, MUL, EORB EXT, ROR IND,Y, BNE, BSR, SWI. -/
theorem test_decode_bits :
    ∀ p ∈ ([([0b10000110, 0b01010101], .ldaa (.imm 0x55)), ([0b00110110], .psha),
      ([0b11100011, 0b11111111], .addd (.mem (.indX 0xFF))), ([0b00111101], .mul),
      ([0b11111000, 0b00010010, 0b00110100], .eorb (.mem (.ext 0x1234))),
      ([0b00011000, 0b01100110, 0b00000001], .ror (.indY 0x01)), ([0b00100110, 0b11111010], .bne 0xFA),
      ([0b10001101, 0b10000000], .bsr 0x80), ([0b00111111], .swi)] : List (List Byte × Instr)),
      decode p.1 = .ok (p.2, p.1.length) := by decide

/-- Unlisted bytes are rejected by name, and a string that ends early as such (95_test_vectors.md VF.1, VF.4 to VF.7). -/
theorem test_decode_rejects :
    decode [0x41] = .error (.illegalOpcode [0x41]) ∧ decode [0x18, 0x00] = .error (.illegalOpcode [0x18, 0x00]) ∧
    decode [0x18, 0x18, 0x08] = .error (.illegalOpcode [0x18, 0x18]) ∧
    decode [0x1A, 0x8C, 0, 0] = .error (.illegalOpcode [0x1A, 0x8C]) ∧
    decode [0xCD, 0x08] = .error (.illegalOpcode [0xCD, 0x08]) ∧ decode [0xCC, 0x12] = .error .truncated := by decide

/-- The opcode table's numbering: the first byte is bits 7 to 0; bytes above the row's bits are 0. -/
theorem test_table_word :
    decodeTableWord 8 0x86 = some (.ldaa (.imm 0x00)) ∧ decodeTableWord 16 0x3A18 = some .aby ∧
    decodeTableWord 8 0x41 = none := by decide

/-! ### One step for each instruction -/

/-- 95_test_vectors.md V40.6: LDAA 2,Y. -/
theorem test_ldaa :
    after (step (code [0x18, 0xA6, 0x02] (store ({ s0 with iy := 0xFFFF }) [(0x0001, 0xA5)]))) (fun t =>
      t.a == 0xA5 && t.ccr.toByte == 0xD8 && t.pc == 0xC003) = true := by decide

/-- 95_test_vectors.md V40.8: LDAB 0,X. -/
theorem test_ldab :
    after (step (code [0xE6, 0x00] (store ({ s0 with a := 0x11, ix := 0x0080 }) [(0x0080, 0x00)]))) (fun t =>
      t.ccr.toByte == 0xD4 && t.pc == 0xC002) = true := by decide

/-- 95_test_vectors.md V40.11: LDD $FFFF. -/
theorem test_ldd :
    after (step (code [0xFC, 0xFF, 0xFF] (store s0 [(0xFFFF, 0xAB), (0x0000, 0xCD)]))) (fun t =>
      t.a == 0xAB && t.b == 0xCD && t.ccr.toByte == 0xD8 && t.pc == 0xC003) = true := by decide

/-- 95_test_vectors.md V40.16: LDX 4,Y. -/
theorem test_ldx :
    after (step (code [0xCD, 0xEE, 0x04] (store ({ s0 with iy := 0x0100 }) [(0x0104, 0xBE), (0x0105, 0xEF)]))) (fun t =>
      t.ix == 0xBEEF && t.ccr.toByte == 0xD8 && t.pc == 0xC003) = true := by decide

/-- 95_test_vectors.md V40.17: LDY 4,X. -/
theorem test_ldy :
    after (step (code [0x1A, 0xEE, 0x04] (store ({ s0 with ix := 0x0100 }) [(0x0104, 0x00), (0x0105, 0x01)]))) (fun t =>
      t.iy == 0x0001 && t.ccr.toByte == 0xD0 && t.pc == 0xC003) = true := by decide

/-- 95_test_vectors.md V40.14: LDS #$01FF. -/
theorem test_lds :
    after (step (code [0x8E, 0x01, 0xFF] ({ s0 with sp := 0x0000 }))) (fun t =>
      t.sp == 0x01FF && t.ccr.toByte == 0xD0 && t.pc == 0xC003) = true := by decide

/-- 95_test_vectors.md V40.19: STAA $20. -/
theorem test_staa :
    after (step (code [0x97, 0x20] ({ s0 with a := 0x80, ccr := ⟨true, true, false, true, false, false, true, true⟩ }))) (fun t =>
      holds t 0x0020 0x80 && t.ccr.toByte == 0xD9 && t.pc == 0xC002) = true := by decide

/-- 95_test_vectors.md V40.20: STAB $10,Y. -/
theorem test_stab :
    after (step (code [0x18, 0xE7, 0x10] ({ s0 with b := 0x00, iy := 0x2000, ccr := ⟨true, true, false, true, true, false, false, false⟩ }))) (fun t =>
      holds t 0x2010 0x00 && t.ccr.toByte == 0xD4 && t.pc == 0xC003) = true := by decide

/-- 95_test_vectors.md V40.22: STD $FFFF. -/
theorem test_std :
    after (step (code [0xFD, 0xFF, 0xFF] ({ s0 with a := 0xAB, b := 0xCD }))) (fun t =>
      holds t 0xFFFF 0xAB && holds t 0x0000 0xCD && t.ccr.toByte == 0xD8 && t.pc == 0xC003) = true := by decide

/-- 95_test_vectors.md V40.23: STS $30. -/
theorem test_sts :
    after (step (code [0x9F, 0x30] ({ s0 with sp := 0x01FF }))) (fun t =>
      holds t 0x0030 0x01 && holds t 0x0031 0xFF && t.ccr.toByte == 0xD0 && t.pc == 0xC002) = true := by decide

/-- 95_test_vectors.md V40.25: STX 0,Y. -/
theorem test_stx :
    after (step (code [0xCD, 0xEF, 0x00] ({ s0 with ix := 0x8001, iy := 0x0050 }))) (fun t =>
      holds t 0x0050 0x80 && holds t 0x0051 0x01 && t.ccr.toByte == 0xD8 && t.pc == 0xC003) = true := by decide

/-- 95_test_vectors.md V40.26: STY $30. -/
theorem test_sty :
    after (step (code [0x18, 0xDF, 0x30] ({ s0 with iy := 0x1234 }))) (fun t =>
      holds t 0x0030 0x12 && holds t 0x0031 0x34 && t.ccr.toByte == 0xD0 && t.pc == 0xC003) = true := by decide

/-- 95_test_vectors.md V40.28: TAB. -/
theorem test_tab :
    after (step (code [0x16] ({ s0 with a := 0x80, b := 0x01, ccr := ⟨true, true, false, true, false, false, true, true⟩ }))) (fun t =>
      t.b == 0x80 && t.ccr.toByte == 0xD9 && t.pc == 0xC001) = true := by decide

/-- 95_test_vectors.md V40.29: TBA. -/
theorem test_tba :
    after (step (code [0x17] ({ s0 with a := 0x80, b := 0x00 }))) (fun t =>
      t.a == 0x00 && t.ccr.toByte == 0xD4 && t.pc == 0xC001) = true := by decide

/-- 95_test_vectors.md V40.31: TSX. -/
theorem test_tsx :
    after (step (code [0x30] ({ s0 with ix := 0x1111, sp := 0xFFFF }))) (fun t =>
      t.ix == 0x0000 && t.ccr.toByte == 0xD0 && t.pc == 0xC001) = true := by decide

/-- 95_test_vectors.md V40.32: TSY. -/
theorem test_tsy :
    after (step (code [0x18, 0x30] ({ s0 with sp := 0x00FF }))) (fun t =>
      t.iy == 0x0100 && t.ccr.toByte == 0xD0 && t.pc == 0xC002) = true := by decide

/-- 95_test_vectors.md V40.34: TXS. -/
theorem test_txs :
    after (step (code [0x35] ({ s0 with ix := 0x0000, sp := 0x0000 }))) (fun t =>
      t.sp == 0xFFFF && t.ccr.toByte == 0xD0 && t.pc == 0xC001) = true := by decide

/-- 95_test_vectors.md V40.35: TYS. -/
theorem test_tys :
    after (step (code [0x18, 0x35] ({ s0 with iy := 0x0100, sp := 0x0000 }))) (fun t =>
      t.sp == 0x00FF && t.ccr.toByte == 0xD0 && t.pc == 0xC002) = true := by decide

/-- 95_test_vectors.md V40.36: XGDX. -/
theorem test_xgdx :
    after (step (code [0x8F] ({ s0 with a := 0x12, b := 0x34, ix := 0xABCD }))) (fun t =>
      t.a == 0xAB && t.b == 0xCD && t.ix == 0x1234 && t.ccr.toByte == 0xD0 && t.pc == 0xC001) = true := by decide

/-- 95_test_vectors.md V40.37: XGDY. -/
theorem test_xgdy :
    after (step (code [0x18, 0x8F] ({ s0 with a := 0x00, b := 0x01, iy := 0xFF00 }))) (fun t =>
      t.a == 0xFF && t.b == 0x00 && t.iy == 0x0001 && t.ccr.toByte == 0xD0 && t.pc == 0xC002) = true := by decide

/-- 95_test_vectors.md V40.38: CLR $0040. -/
theorem test_clr :
    after (step (code [0x7F, 0x00, 0x40] (store ({ s0 with ccr := ⟨true, true, false, true, true, false, true, true⟩ }) [(0x0040, 0xFF)]))) (fun t =>
      holds t 0x0040 0x00 && t.ccr.toByte == 0xD4 && t.pc == 0xC003) = true := by decide

/-- 95_test_vectors.md V40.41: CLRA. -/
theorem test_clra :
    after (step (code [0x4F] ({ s0 with a := 0x99, ccr := ⟨true, true, false, true, true, false, false, true⟩ }))) (fun t =>
      t.a == 0x00 && t.ccr.toByte == 0xD4 && t.pc == 0xC001) = true := by decide

/-- 95_test_vectors.md V40.42: CLRB. -/
theorem test_clrb :
    after (step (code [0x5F] ({ s0 with b := 0x99, ccr := ⟨true, true, false, true, false, false, true, false⟩ }))) (fun t =>
      t.b == 0x00 && t.ccr.toByte == 0xD4 && t.pc == 0xC001) = true := by decide

/-- 95_test_vectors.md V41.11: PSHA. -/
theorem test_psha :
    after (step (code [0x36] ({ s0 with a := 0x77, sp := 0x0000 }))) (fun t =>
      t.sp == 0xFFFF && holds t 0x0000 0x77 && t.ccr.toByte == 0xD0 && t.pc == 0xC001) = true := by decide

/-- 95_test_vectors.md V41.2: PSHB. -/
theorem test_pshb :
    after (step (code [0x37] ({ s0 with b := 0xA5 }))) (fun t =>
      t.sp == 0x01FE && holds t 0x01FF 0xA5 && t.ccr.toByte == 0xD0 && t.pc == 0xC001) = true := by decide

/-- 95_test_vectors.md V41.12: PSHX. -/
theorem test_pshx :
    after (step (code [0x3C] ({ s0 with ix := 0xBEEF, sp := 0x0000 }))) (fun t =>
      t.sp == 0xFFFE && holds t 0x0000 0xEF && holds t 0xFFFF 0xBE && t.ccr.toByte == 0xD0 && t.pc == 0xC001) = true := by decide

/-- 95_test_vectors.md V41.4: PSHY. -/
theorem test_pshy :
    after (step (code [0x18, 0x3C] ({ s0 with iy := 0xABCD }))) (fun t =>
      t.sp == 0x01FD && holds t 0x01FF 0xCD && holds t 0x01FE 0xAB && t.ccr.toByte == 0xD0 && t.pc == 0xC002) = true := by decide

/-- 95_test_vectors.md V41.13: PULA. -/
theorem test_pula :
    after (step (code [0x32] (store ({ s0 with sp := 0xFFFF }) [(0x0000, 0x42)]))) (fun t =>
      t.a == 0x42 && t.sp == 0x0000 && t.ccr.toByte == 0xD0 && t.pc == 0xC001) = true := by decide

/-- 95_test_vectors.md V41.6: PULB. -/
theorem test_pulb :
    after (step (code [0x33] (store ({ s0 with sp := 0x01FD }) [(0x01FE, 0x00)]))) (fun t =>
      t.sp == 0x01FE && t.ccr.toByte == 0xD0 && t.pc == 0xC001) = true := by decide

/-- 95_test_vectors.md V41.7: PULX. -/
theorem test_pulx :
    after (step (code [0x38] (store ({ s0 with sp := 0x01FD }) [(0x01FE, 0x12), (0x01FF, 0x34)]))) (fun t =>
      t.ix == 0x1234 && t.sp == 0x01FF && t.ccr.toByte == 0xD0 && t.pc == 0xC001) = true := by decide

/-- 95_test_vectors.md V41.8: PULY. -/
theorem test_puly :
    after (step (code [0x18, 0x38] (store ({ s0 with sp := 0x01FD }) [(0x01FE, 0xAB), (0x01FF, 0xCD)]))) (fun t =>
      t.iy == 0xABCD && t.sp == 0x01FF && t.ccr.toByte == 0xD0 && t.pc == 0xC002) = true := by decide

/-- 95_test_vectors.md V41.14: DES. -/
theorem test_des :
    after (step (code [0x34] ({ s0 with sp := 0x0000 }))) (fun t =>
      t.sp == 0xFFFF && t.ccr.toByte == 0xD0 && t.pc == 0xC001) = true := by decide

/-- 95_test_vectors.md V41.15: INS. -/
theorem test_ins :
    after (step (code [0x31] ({ s0 with sp := 0xFFFF }))) (fun t =>
      t.sp == 0x0000 && t.ccr.toByte == 0xD0 && t.pc == 0xC001) = true := by decide

/-- 95_test_vectors.md V42.1: ABA. -/
theorem test_aba :
    after (step (code [0x1B] ({ s0 with a := 0x0F, b := 0x01 }))) (fun t =>
      t.a == 0x10 && t.ccr.toByte == 0xF0 && t.pc == 0xC001) = true := by decide

/-- 95_test_vectors.md V42.5: ABX. -/
theorem test_abx :
    after (step (code [0x3A] ({ s0 with b := 0x02, ix := 0xFFFF }))) (fun t =>
      t.ix == 0x0001 && t.ccr.toByte == 0xD0 && t.pc == 0xC001) = true := by decide

/-- 95_test_vectors.md V42.6: ABY. -/
theorem test_aby :
    after (step (code [0x18, 0x3A] ({ s0 with b := 0x80, iy := 0x0080 }))) (fun t =>
      t.iy == 0x0100 && t.ccr.toByte == 0xD0 && t.pc == 0xC002) = true := by decide

/-- 95_test_vectors.md V42.7: ADCA #$00. -/
theorem test_adca :
    after (step (code [0x89, 0x00] ({ s0 with a := 0xFF, ccr := ⟨true, true, false, true, false, false, false, true⟩ }))) (fun t =>
      t.a == 0x00 && t.ccr.toByte == 0xF5 && t.pc == 0xC002) = true := by decide

/-- 95_test_vectors.md V42.9: ADCB #$7F. -/
theorem test_adcb :
    after (step (code [0xC9, 0x7F] ({ s0 with b := 0x00, ccr := ⟨true, true, false, true, false, false, false, true⟩ }))) (fun t =>
      t.b == 0x80 && t.ccr.toByte == 0xFA && t.pc == 0xC002) = true := by decide

/-- 95_test_vectors.md V42.10: ADDA #$01. -/
theorem test_adda :
    after (step (code [0x8B, 0x01] ({ s0 with a := 0x01, ccr := ⟨true, true, false, true, false, false, false, true⟩ }))) (fun t =>
      t.a == 0x02 && t.ccr.toByte == 0xD0 && t.pc == 0xC002) = true := by decide

/-- 95_test_vectors.md V42.12: ADDB $10. -/
theorem test_addb :
    after (step (code [0xDB, 0x10] (store ({ s0 with b := 0x28 }) [(0x0010, 0x19)]))) (fun t =>
      t.b == 0x41 && t.ccr.toByte == 0xF0 && t.pc == 0xC002) = true := by decide

/-- 95_test_vectors.md V42.13: ADDD #$0001. -/
theorem test_addd :
    after (step (code [0xC3, 0x00, 0x01] ({ s0 with a := 0x7F, b := 0xFF, ccr := ⟨true, true, true, true, false, false, false, false⟩ }))) (fun t =>
      t.a == 0x80 && t.b == 0x00 && t.ccr.toByte == 0xFA && t.pc == 0xC003) = true := by decide

/-- 95_test_vectors.md V42.16: SBA. -/
theorem test_sba :
    after (step (code [0x10] ({ s0 with a := 0x05, b := 0x06 }))) (fun t =>
      t.a == 0xFF && t.ccr.toByte == 0xD9 && t.pc == 0xC001) = true := by decide

/-- 95_test_vectors.md V42.17: SBCA #$00. -/
theorem test_sbca :
    after (step (code [0x82, 0x00] ({ s0 with a := 0x00, ccr := ⟨true, true, false, true, false, false, false, true⟩ }))) (fun t =>
      t.a == 0xFF && t.ccr.toByte == 0xD9 && t.pc == 0xC002) = true := by decide

/-- 95_test_vectors.md V42.18: SBCB #$7F. -/
theorem test_sbcb :
    after (step (code [0xC2, 0x7F] ({ s0 with b := 0x80, ccr := ⟨true, true, false, true, false, false, false, true⟩ }))) (fun t =>
      t.b == 0x00 && t.ccr.toByte == 0xD6 && t.pc == 0xC002) = true := by decide

/-- 95_test_vectors.md V42.19: SUBA #$01. -/
theorem test_suba :
    after (step (code [0x80, 0x01] ({ s0 with a := 0x80 }))) (fun t =>
      t.a == 0x7F && t.ccr.toByte == 0xD2 && t.pc == 0xC002) = true := by decide

/-- 95_test_vectors.md V42.21: SUBB $0100. -/
theorem test_subb :
    after (step (code [0xF0, 0x01, 0x00] (store ({ s0 with b := 0x42 }) [(0x0100, 0x42)]))) (fun t =>
      t.b == 0x00 && t.ccr.toByte == 0xD4 && t.pc == 0xC003) = true := by decide

/-- 95_test_vectors.md V42.22: SUBD #$0001. -/
theorem test_subd :
    after (step (code [0x83, 0x00, 0x01] ({ s0 with a := 0x80, b := 0x00 }))) (fun t =>
      t.a == 0x7F && t.b == 0xFF && t.ccr.toByte == 0xD2 && t.pc == 0xC003) = true := by decide

/-- 95_test_vectors.md V42.25: CBA. -/
theorem test_cba :
    after (step (code [0x11] ({ s0 with a := 0x10, b := 0x10 }))) (fun t =>
      t.ccr.toByte == 0xD4 && t.pc == 0xC001) = true := by decide

/-- 95_test_vectors.md V42.26: CMPA #$80. -/
theorem test_cmpa :
    after (step (code [0x81, 0x80] ({ s0 with a := 0x7F }))) (fun t =>
      t.ccr.toByte == 0xDB && t.pc == 0xC002) = true := by decide

/-- 95_test_vectors.md V42.27: CMPB $20. -/
theorem test_cmpb :
    after (step (code [0xD1, 0x20] (store ({ s0 with b := 0x01 }) [(0x0020, 0x02)]))) (fun t =>
      t.ccr.toByte == 0xD9 && t.pc == 0xC002) = true := by decide

/-- 95_test_vectors.md V42.28: CPD #$1234. -/
theorem test_cpd :
    after (step (code [0x1A, 0x83, 0x12, 0x34] ({ s0 with a := 0x12, b := 0x34 }))) (fun t =>
      t.ccr.toByte == 0xD4 && t.pc == 0xC004) = true := by decide

/-- 95_test_vectors.md V42.31: CPX 2,Y. -/
theorem test_cpx :
    after (step (code [0xCD, 0xAC, 0x02] (store ({ s0 with ix := 0x0100, iy := 0x0040 }) [(0x0042, 0x00), (0x0043, 0xFF)]))) (fun t =>
      t.ccr.toByte == 0xD0 && t.pc == 0xC003) = true := by decide

/-- 95_test_vectors.md V42.32: CPY #$0000. -/
theorem test_cpy :
    after (step (code [0x18, 0x8C, 0x00, 0x00] ({ s0 with iy := 0x0000 }))) (fun t =>
      t.ccr.toByte == 0xD4 && t.pc == 0xC004) = true := by decide

/-- 95_test_vectors.md V42.34: NEG $0040. -/
theorem test_neg :
    after (step (code [0x70, 0x00, 0x40] (store s0 [(0x0040, 0x01)]))) (fun t =>
      holds t 0x0040 0xFF && t.ccr.toByte == 0xD9 && t.pc == 0xC003) = true := by decide

/-- 95_test_vectors.md V42.35: NEGA. -/
theorem test_nega :
    after (step (code [0x40] ({ s0 with a := 0x80 }))) (fun t =>
      t.ccr.toByte == 0xDB && t.pc == 0xC001) = true := by decide

/-- 95_test_vectors.md V42.37: NEGB. -/
theorem test_negb :
    after (step (code [0x50] ({ s0 with b := 0x7F }))) (fun t =>
      t.b == 0x81 && t.ccr.toByte == 0xD9 && t.pc == 0xC001) = true := by decide

/-- 95_test_vectors.md V42.38: INC $0040. -/
theorem test_inc :
    after (step (code [0x7C, 0x00, 0x40] (store ({ s0 with ccr := ⟨true, true, false, true, false, false, false, true⟩ }) [(0x0040, 0x7F)]))) (fun t =>
      holds t 0x0040 0x80 && t.ccr.toByte == 0xDB && t.pc == 0xC003) = true := by decide

/-- 95_test_vectors.md V42.39: INCA. -/
theorem test_inca :
    after (step (code [0x4C] ({ s0 with a := 0xFF }))) (fun t =>
      t.a == 0x00 && t.ccr.toByte == 0xD4 && t.pc == 0xC001) = true := by decide

/-- 95_test_vectors.md V42.40: INCB. -/
theorem test_incb :
    after (step (code [0x5C] ({ s0 with b := 0x00 }))) (fun t =>
      t.b == 0x01 && t.ccr.toByte == 0xD0 && t.pc == 0xC001) = true := by decide

/-- 95_test_vectors.md V42.41: DEC 0,X. -/
theorem test_dec :
    after (step (code [0x6A, 0x00] (store ({ s0 with ix := 0x0040 }) [(0x0040, 0x80)]))) (fun t =>
      holds t 0x0040 0x7F && t.ccr.toByte == 0xD2 && t.pc == 0xC002) = true := by decide

/-- 95_test_vectors.md V42.42: DECA. -/
theorem test_deca :
    after (step (code [0x4A] ({ s0 with a := 0x00 }))) (fun t =>
      t.a == 0xFF && t.ccr.toByte == 0xD8 && t.pc == 0xC001) = true := by decide

/-- 95_test_vectors.md V42.43: DECB. -/
theorem test_decb :
    after (step (code [0x5A] ({ s0 with b := 0x01, ccr := ⟨true, true, false, true, false, false, false, true⟩ }))) (fun t =>
      t.b == 0x00 && t.ccr.toByte == 0xD5 && t.pc == 0xC001) = true := by decide

/-- 95_test_vectors.md V42.44: INX. -/
theorem test_inx :
    after (step (code [0x08] ({ s0 with ix := 0xFFFF, ccr := ⟨true, true, false, true, true, false, true, true⟩ }))) (fun t =>
      t.ix == 0x0000 && t.ccr.toByte == 0xDF && t.pc == 0xC001) = true := by decide

/-- 95_test_vectors.md V42.46: INY. -/
theorem test_iny :
    after (step (code [0x18, 0x08] ({ s0 with iy := 0x00FF }))) (fun t =>
      t.iy == 0x0100 && t.ccr.toByte == 0xD0 && t.pc == 0xC002) = true := by decide

/-- 95_test_vectors.md V42.48: DEX. -/
theorem test_dex :
    after (step (code [0x09] ({ s0 with ix := 0x0000, ccr := ⟨true, true, false, true, false, true, false, false⟩ }))) (fun t =>
      t.ix == 0xFFFF && t.ccr.toByte == 0xD0 && t.pc == 0xC001) = true := by decide

/-- 95_test_vectors.md V42.49: DEY. -/
theorem test_dey :
    after (step (code [0x18, 0x09] ({ s0 with iy := 0x0100 }))) (fun t =>
      t.iy == 0x00FF && t.ccr.toByte == 0xD0 && t.pc == 0xC002) = true := by decide

/-- 95_test_vectors.md V42.50: TST $0040. -/
theorem test_tst :
    after (step (code [0x7D, 0x00, 0x40] (store ({ s0 with ccr := ⟨true, true, false, true, false, false, true, true⟩ }) [(0x0040, 0x80)]))) (fun t =>
      t.ccr.toByte == 0xD8 && t.pc == 0xC003) = true := by decide

/-- 95_test_vectors.md V42.51: TSTA. -/
theorem test_tsta :
    after (step (code [0x4D] ({ s0 with a := 0x00, ccr := ⟨true, true, false, true, false, false, false, true⟩ }))) (fun t =>
      t.ccr.toByte == 0xD4 && t.pc == 0xC001) = true := by decide

/-- 95_test_vectors.md V42.52: TSTB. -/
theorem test_tstb :
    after (step (code [0x5D] ({ s0 with b := 0x01, ccr := ⟨true, true, false, true, true, false, false, false⟩ }))) (fun t =>
      t.ccr.toByte == 0xD0 && t.pc == 0xC001) = true := by decide

/-- 95_test_vectors.md V43.1: MUL. -/
theorem test_mul :
    after (step (code [0x3D] ({ s0 with a := 0xFF, b := 0xFF, ccr := ⟨true, true, false, true, false, false, false, true⟩ }))) (fun t =>
      t.a == 0xFE && t.b == 0x01 && t.ccr.toByte == 0xD0 && t.pc == 0xC001) = true := by decide

/-- 95_test_vectors.md V43.5: IDIV. -/
theorem test_idiv :
    after (step (code [0x02] ({ s0 with a := 0x00, b := 0x64, ix := 0x0007 }))) (fun t =>
      t.b == 0x02 && t.ix == 0x000E && t.ccr.toByte == 0xD0 && t.pc == 0xC001) = true := by decide

/-- 95_test_vectors.md V43.9: FDIV. -/
theorem test_fdiv :
    after (step (code [0x03] ({ s0 with a := 0x00, b := 0x01, ix := 0x0002 }))) (fun t =>
      t.b == 0x00 && t.ix == 0x8000 && t.ccr.toByte == 0xD0 && t.pc == 0xC001) = true := by decide

/-- 95_test_vectors.md V44.1: ANDA #$0F. -/
theorem test_anda :
    after (step (code [0x84, 0x0F] ({ s0 with a := 0xA5, ccr := ⟨true, true, false, true, false, false, true, true⟩ }))) (fun t =>
      t.a == 0x05 && t.ccr.toByte == 0xD1 && t.pc == 0xC002) = true := by decide

/-- 95_test_vectors.md V44.2: ANDB $10. -/
theorem test_andb :
    after (step (code [0xD4, 0x10] (store ({ s0 with b := 0xF0 }) [(0x0010, 0x0F)]))) (fun t =>
      t.b == 0x00 && t.ccr.toByte == 0xD4 && t.pc == 0xC002) = true := by decide

/-- 95_test_vectors.md V44.3: BITA #$80. -/
theorem test_bita :
    after (step (code [0x85, 0x80] ({ s0 with a := 0x80 }))) (fun t =>
      t.a == 0x80 && t.ccr.toByte == 0xD8 && t.pc == 0xC002) = true := by decide

/-- 95_test_vectors.md V44.4: BITB $1000. -/
theorem test_bitb :
    after (step (code [0xF5, 0x10, 0x00] (store ({ s0 with b := 0x01 }) [(0x1000, 0xFE)]))) (fun t =>
      t.b == 0x01 && t.ccr.toByte == 0xD4 && t.pc == 0xC003) = true := by decide

/-- 95_test_vectors.md V44.6: EORA #$FF. -/
theorem test_eora :
    after (step (code [0x88, 0xFF] ({ s0 with a := 0xFF, ccr := ⟨true, true, false, true, false, false, false, false⟩ }))) (fun t =>
      t.a == 0x00 && t.ccr.toByte == 0xD4 && t.pc == 0xC002) = true := by decide

/-- 95_test_vectors.md V44.7: EORB 0,X. -/
theorem test_eorb :
    after (step (code [0xE8, 0x00] (store ({ s0 with b := 0x55, ix := 0x0040 }) [(0x0040, 0xAA)]))) (fun t =>
      t.b == 0xFF && t.ccr.toByte == 0xD8 && t.pc == 0xC002) = true := by decide

/-- 95_test_vectors.md V44.8: ORAA #$80. -/
theorem test_oraa :
    after (step (code [0x8A, 0x80] ({ s0 with a := 0x01 }))) (fun t =>
      t.a == 0x81 && t.ccr.toByte == 0xD8 && t.pc == 0xC002) = true := by decide

/-- 95_test_vectors.md V44.9: ORAB 0,Y. -/
theorem test_orab :
    after (step (code [0x18, 0xEA, 0x00] (store ({ s0 with b := 0x00, iy := 0x0040 }) [(0x0040, 0x00)]))) (fun t =>
      t.ccr.toByte == 0xD4 && t.pc == 0xC003) = true := by decide

/-- 95_test_vectors.md V44.10: COM $0040. -/
theorem test_com :
    after (step (code [0x73, 0x00, 0x40] (store s0 [(0x0040, 0x55)]))) (fun t =>
      holds t 0x0040 0xAA && t.ccr.toByte == 0xD9 && t.pc == 0xC003) = true := by decide

/-- 95_test_vectors.md V44.11: COMA. -/
theorem test_coma :
    after (step (code [0x43] ({ s0 with a := 0xFF }))) (fun t =>
      t.a == 0x00 && t.ccr.toByte == 0xD5 && t.pc == 0xC001) = true := by decide

/-- 95_test_vectors.md V44.12: COMB. -/
theorem test_comb :
    after (step (code [0x53] ({ s0 with b := 0x00 }))) (fun t =>
      t.b == 0xFF && t.ccr.toByte == 0xD9 && t.pc == 0xC001) = true := by decide

/-- 95_test_vectors.md V44.13: BCLR $40,#$0F. -/
theorem test_bclr :
    after (step (code [0x15, 0x40, 0x0F] (store ({ s0 with ccr := ⟨true, true, false, true, false, false, true, true⟩ }) [(0x0040, 0xFF)]))) (fun t =>
      holds t 0x0040 0xF0 && t.ccr.toByte == 0xD9 && t.pc == 0xC003) = true := by decide

/-- 95_test_vectors.md V44.17: BSET $40,#$81. -/
theorem test_bset :
    after (step (code [0x14, 0x40, 0x81] (store s0 [(0x0040, 0x10)]))) (fun t =>
      holds t 0x0040 0x91 && t.ccr.toByte == 0xD8 && t.pc == 0xC003) = true := by decide

/-- 95_test_vectors.md V45.1: ASL $0040. -/
theorem test_asl :
    after (step (code [0x78, 0x00, 0x40] (store s0 [(0x0040, 0x80)]))) (fun t =>
      holds t 0x0040 0x00 && t.ccr.toByte == 0xD7 && t.pc == 0xC003) = true := by decide

/-- 95_test_vectors.md V45.3: ASLA. -/
theorem test_asla :
    after (step (code [0x48] ({ s0 with a := 0x40 }))) (fun t =>
      t.a == 0x80 && t.ccr.toByte == 0xDA && t.pc == 0xC001) = true := by decide

/-- 95_test_vectors.md V45.5: ASLB. -/
theorem test_aslb :
    after (step (code [0x58] ({ s0 with b := 0xFF }))) (fun t =>
      t.b == 0xFE && t.ccr.toByte == 0xD9 && t.pc == 0xC001) = true := by decide

/-- 95_test_vectors.md V45.6: ASLD. -/
theorem test_asld :
    after (step (code [0x05] ({ s0 with a := 0x40, b := 0x00 }))) (fun t =>
      t.a == 0x80 && t.ccr.toByte == 0xDA && t.pc == 0xC001) = true := by decide

/-- 95_test_vectors.md V45.8: ASR $0040. -/
theorem test_asr :
    after (step (code [0x77, 0x00, 0x40] (store s0 [(0x0040, 0x81)]))) (fun t =>
      holds t 0x0040 0xC0 && t.ccr.toByte == 0xD9 && t.pc == 0xC003) = true := by decide

/-- 95_test_vectors.md V45.9: ASRA. -/
theorem test_asra :
    after (step (code [0x47] ({ s0 with a := 0x01 }))) (fun t =>
      t.a == 0x00 && t.ccr.toByte == 0xD7 && t.pc == 0xC001) = true := by decide

/-- 95_test_vectors.md V45.10: ASRB. -/
theorem test_asrb :
    after (step (code [0x57] ({ s0 with b := 0x80 }))) (fun t =>
      t.b == 0xC0 && t.ccr.toByte == 0xDA && t.pc == 0xC001) = true := by decide

/-- 95_test_vectors.md V45.11: LSL $0040. -/
theorem test_lsl :
    after (step (code [0x78, 0x00, 0x40] (store s0 [(0x0040, 0x55)]))) (fun t =>
      holds t 0x0040 0xAA && t.ccr.toByte == 0xDA && t.pc == 0xC003) = true := by decide

/-- 95_test_vectors.md V45.13: LSLA. -/
theorem test_lsla :
    after (step (code [0x48] ({ s0 with a := 0x01 }))) (fun t =>
      t.a == 0x02 && t.ccr.toByte == 0xD0 && t.pc == 0xC001) = true := by decide

/-- 95_test_vectors.md V45.14: LSLB. -/
theorem test_lslb :
    after (step (code [0x58] ({ s0 with b := 0x80 }))) (fun t =>
      t.b == 0x00 && t.ccr.toByte == 0xD7 && t.pc == 0xC001) = true := by decide

/-- 95_test_vectors.md V45.15: LSLD. -/
theorem test_lsld :
    after (step (code [0x05] ({ s0 with a := 0xFF, b := 0xFF }))) (fun t =>
      t.b == 0xFE && t.ccr.toByte == 0xD9 && t.pc == 0xC001) = true := by decide

/-- 95_test_vectors.md V45.16: LSR $0040. -/
theorem test_lsr :
    after (step (code [0x74, 0x00, 0x40] (store s0 [(0x0040, 0x01)]))) (fun t =>
      holds t 0x0040 0x00 && t.ccr.toByte == 0xD7 && t.pc == 0xC003) = true := by decide

/-- 95_test_vectors.md V45.17: LSRA. -/
theorem test_lsra :
    after (step (code [0x44] ({ s0 with a := 0x80, ccr := ⟨true, true, false, true, true, false, false, false⟩ }))) (fun t =>
      t.a == 0x40 && t.ccr.toByte == 0xD0 && t.pc == 0xC001) = true := by decide

/-- 95_test_vectors.md V45.18: LSRB. -/
theorem test_lsrb :
    after (step (code [0x54] ({ s0 with b := 0xFF }))) (fun t =>
      t.b == 0x7F && t.ccr.toByte == 0xD3 && t.pc == 0xC001) = true := by decide

/-- 95_test_vectors.md V45.20: LSRD. -/
theorem test_lsrd :
    after (step (code [0x04] ({ s0 with a := 0x00, b := 0x01 }))) (fun t =>
      t.b == 0x00 && t.ccr.toByte == 0xD7 && t.pc == 0xC001) = true := by decide

/-- 95_test_vectors.md V45.21: ROL $0040. -/
theorem test_rol :
    after (step (code [0x79, 0x00, 0x40] (store ({ s0 with ccr := ⟨true, true, false, true, false, false, false, true⟩ }) [(0x0040, 0x80)]))) (fun t =>
      holds t 0x0040 0x01 && t.ccr.toByte == 0xD3 && t.pc == 0xC003) = true := by decide

/-- 95_test_vectors.md V45.22: ROLA. -/
theorem test_rola :
    after (step (code [0x49] ({ s0 with a := 0x55, ccr := ⟨true, true, false, true, false, false, false, false⟩ }))) (fun t =>
      t.a == 0xAA && t.ccr.toByte == 0xDA && t.pc == 0xC001) = true := by decide

/-- 95_test_vectors.md V45.23: ROLB. -/
theorem test_rolb :
    after (step (code [0x59] ({ s0 with b := 0x00, ccr := ⟨true, true, false, true, false, false, false, true⟩ }))) (fun t =>
      t.b == 0x01 && t.ccr.toByte == 0xD0 && t.pc == 0xC001) = true := by decide

/-- 95_test_vectors.md V45.24: ROR $0040. -/
theorem test_ror :
    after (step (code [0x76, 0x00, 0x40] (store ({ s0 with ccr := ⟨true, true, false, true, false, false, false, true⟩ }) [(0x0040, 0x01)]))) (fun t =>
      holds t 0x0040 0x80 && t.ccr.toByte == 0xD9 && t.pc == 0xC003) = true := by decide

/-- 95_test_vectors.md V45.25: RORA. -/
theorem test_rora :
    after (step (code [0x46] ({ s0 with a := 0x01, ccr := ⟨true, true, false, true, false, false, false, false⟩ }))) (fun t =>
      t.a == 0x00 && t.ccr.toByte == 0xD7 && t.pc == 0xC001) = true := by decide

/-- 95_test_vectors.md V45.26: RORB. -/
theorem test_rorb :
    after (step (code [0x56] ({ s0 with b := 0x00, ccr := ⟨true, true, false, true, false, false, false, true⟩ }))) (fun t =>
      t.b == 0x80 && t.ccr.toByte == 0xDA && t.pc == 0xC001) = true := by decide

/-- 95_test_vectors.md V46.1: BCC *+$12. -/
theorem test_bcc :
    after (step (code [0x24, 0x10] ({ s0 with ccr := ⟨true, true, false, true, false, false, false, false⟩ }))) (fun t =>
      t.ccr.toByte == 0xD0 && t.pc == 0xC012) = true := by decide

/-- 95_test_vectors.md V46.3: BCS *+$12. -/
theorem test_bcs :
    after (step (code [0x25, 0x10] ({ s0 with ccr := ⟨true, true, false, true, false, false, false, true⟩ }))) (fun t =>
      t.ccr.toByte == 0xD1 && t.pc == 0xC012) = true := by decide

/-- 95_test_vectors.md V46.5: BEQ *+$12. -/
theorem test_beq :
    after (step (code [0x27, 0x10] ({ s0 with ccr := ⟨true, true, false, true, false, true, false, false⟩ }))) (fun t =>
      t.ccr.toByte == 0xD4 && t.pc == 0xC012) = true := by decide

/-- 95_test_vectors.md V46.7: BGE *+$12. -/
theorem test_bge :
    after (step (code [0x2C, 0x10] ({ s0 with ccr := ⟨true, true, false, true, true, false, true, false⟩ }))) (fun t =>
      t.ccr.toByte == 0xDA && t.pc == 0xC012) = true := by decide

/-- 95_test_vectors.md V46.9: BGT *+$12. -/
theorem test_bgt :
    after (step (code [0x2E, 0x10] ({ s0 with ccr := ⟨true, true, false, true, false, false, false, false⟩ }))) (fun t =>
      t.ccr.toByte == 0xD0 && t.pc == 0xC012) = true := by decide

/-- 95_test_vectors.md V46.12: BHI *+$12. -/
theorem test_bhi :
    after (step (code [0x22, 0x10] ({ s0 with ccr := ⟨true, true, false, true, false, false, false, false⟩ }))) (fun t =>
      t.ccr.toByte == 0xD0 && t.pc == 0xC012) = true := by decide

/-- 95_test_vectors.md V46.15: BHS *+$12. -/
theorem test_bhs :
    after (step (code [0x24, 0x10] ({ s0 with ccr := ⟨true, true, false, true, false, false, false, false⟩ }))) (fun t =>
      t.ccr.toByte == 0xD0 && t.pc == 0xC012) = true := by decide

/-- 95_test_vectors.md V46.16: BLE *+$12. -/
theorem test_ble :
    after (step (code [0x2F, 0x10] ({ s0 with ccr := ⟨true, true, false, true, false, true, false, false⟩ }))) (fun t =>
      t.ccr.toByte == 0xD4 && t.pc == 0xC012) = true := by decide

/-- 95_test_vectors.md V46.19: BLO *+$12. -/
theorem test_blo :
    after (step (code [0x25, 0x10] ({ s0 with ccr := ⟨true, true, false, true, false, false, false, true⟩ }))) (fun t =>
      t.ccr.toByte == 0xD1 && t.pc == 0xC012) = true := by decide

/-- 95_test_vectors.md V46.20: BLS *+$12. -/
theorem test_bls :
    after (step (code [0x23, 0x10] ({ s0 with ccr := ⟨true, true, false, true, false, false, false, true⟩ }))) (fun t =>
      t.ccr.toByte == 0xD1 && t.pc == 0xC012) = true := by decide

/-- 95_test_vectors.md V46.23: BLT *+$12. -/
theorem test_blt :
    after (step (code [0x2D, 0x10] ({ s0 with ccr := ⟨true, true, false, true, false, false, true, false⟩ }))) (fun t =>
      t.ccr.toByte == 0xD2 && t.pc == 0xC012) = true := by decide

/-- 95_test_vectors.md V46.25: BMI *+$12. -/
theorem test_bmi :
    after (step (code [0x2B, 0x10] ({ s0 with ccr := ⟨true, true, false, true, true, false, false, false⟩ }))) (fun t =>
      t.ccr.toByte == 0xD8 && t.pc == 0xC012) = true := by decide

/-- 95_test_vectors.md V46.27: BNE *+$12. -/
theorem test_bne :
    after (step (code [0x26, 0x10] ({ s0 with ccr := ⟨true, true, false, true, false, false, false, false⟩ }))) (fun t =>
      t.ccr.toByte == 0xD0 && t.pc == 0xC012) = true := by decide

/-- 95_test_vectors.md V46.29: BPL *+$12. -/
theorem test_bpl :
    after (step (code [0x2A, 0x10] ({ s0 with ccr := ⟨true, true, false, true, false, false, false, false⟩ }))) (fun t =>
      t.ccr.toByte == 0xD0 && t.pc == 0xC012) = true := by decide

/-- 95_test_vectors.md V46.31: BVC *+$12. -/
theorem test_bvc :
    after (step (code [0x28, 0x10] ({ s0 with ccr := ⟨true, true, false, true, false, false, false, false⟩ }))) (fun t =>
      t.ccr.toByte == 0xD0 && t.pc == 0xC012) = true := by decide

/-- 95_test_vectors.md V46.33: BVS *+$12. -/
theorem test_bvs :
    after (step (code [0x29, 0x10] ({ s0 with ccr := ⟨true, true, false, true, false, false, true, false⟩ }))) (fun t =>
      t.ccr.toByte == 0xD2 && t.pc == 0xC012) = true := by decide

/-- 95_test_vectors.md V46.35: BRA *+$81. -/
theorem test_bra :
    after (step (code [0x20, 0x7F] (s0))) (fun t =>
      t.ccr.toByte == 0xD0 && t.pc == 0xC081) = true := by decide

/-- 95_test_vectors.md V46.39: BRN *+$81. -/
theorem test_brn :
    after (step (code [0x21, 0x7F] (s0))) (fun t =>
      t.ccr.toByte == 0xD0 && t.pc == 0xC002) = true := by decide

/-- 95_test_vectors.md V46.42: BRCLR $40,#$0F,*+9. -/
theorem test_brclr :
    after (step (code [0x13, 0x40, 0x0F, 0x05] (store s0 [(0x0040, 0xF0)]))) (fun t =>
      t.ccr.toByte == 0xD0 && t.pc == 0xC009) = true := by decide

/-- 95_test_vectors.md V46.47: BRSET $40,#$81,*+9. -/
theorem test_brset :
    after (step (code [0x12, 0x40, 0x81, 0x05] (store s0 [(0x0040, 0xC3)]))) (fun t =>
      t.ccr.toByte == 0xD0 && t.pc == 0xC009) = true := by decide

/-- 95_test_vectors.md V47.3: JMP $FF,Y. -/
theorem test_jmp :
    after (step (code [0x18, 0x6E, 0xFF] ({ s0 with iy := 0xFF01 }))) (fun t =>
      t.ccr.toByte == 0xD0 && t.pc == 0x0000) = true := by decide

/-- 95_test_vectors.md V47.8: JSR $D000. -/
theorem test_jsr :
    after (step (code [0xBD, 0xD0, 0x00] ({ s0 with sp := 0x0000 }))) (fun t =>
      t.sp == 0xFFFE && holds t 0x0000 0x03 && holds t 0xFFFF 0xC0 && t.ccr.toByte == 0xD0 && t.pc == 0xD000) = true := by decide

/-- 95_test_vectors.md V47.9: BSR *+$12. -/
theorem test_bsr :
    after (step (code [0x8D, 0x10] (s0))) (fun t =>
      t.sp == 0x01FD && holds t 0x01FF 0x02 && holds t 0x01FE 0xC0 && t.ccr.toByte == 0xD0 && t.pc == 0xC012) = true := by decide

/-- 95_test_vectors.md V47.13: RTS. -/
theorem test_rts :
    after (step (code [0x39] (store ({ s0 with sp := 0xFFFE }) [(0xFFFF, 0x12), (0x0000, 0x34)]))) (fun t =>
      t.sp == 0x0000 && t.ccr.toByte == 0xD0 && t.pc == 0x1234) = true := by decide

/-- 95_test_vectors.md V48.1: CLC. -/
theorem test_clc :
    after (step (code [0x0C] ({ s0 with ccr := ⟨true, true, false, true, false, false, false, true⟩ }))) (fun t =>
      t.ccr.toByte == 0xD0 && t.pc == 0xC001) = true := by decide

/-- 95_test_vectors.md V48.2: SEC. -/
theorem test_sec :
    after (step (code [0x0D] (s0))) (fun t =>
      t.ccr.toByte == 0xD1 && t.pc == 0xC001) = true := by decide

/-- 95_test_vectors.md V48.3: CLV. -/
theorem test_clv :
    after (step (code [0x0A] ({ s0 with ccr := ⟨true, true, false, true, false, false, true, false⟩ }))) (fun t =>
      t.ccr.toByte == 0xD0 && t.pc == 0xC001) = true := by decide

/-- 95_test_vectors.md V48.4: SEV. -/
theorem test_sev :
    after (step (code [0x0B] (s0))) (fun t =>
      t.ccr.toByte == 0xD2 && t.pc == 0xC001) = true := by decide

/-- 95_test_vectors.md V48.6: CLI. -/
theorem test_cli :
    after (step (code [0x0E] ({ s0 with ccr := ⟨true, true, false, false, false, false, false, false⟩ }))) (fun t =>
      t.ccr.toByte == 0xC0 && t.pc == 0xC001) = true := by decide

/-- 95_test_vectors.md V48.7: SEI. -/
theorem test_sei :
    after (step (code [0x0F] ({ s0 with ccr := ⟨true, true, false, false, false, false, false, false⟩ }))) (fun t =>
      t.ccr.toByte == 0xD0 && t.pc == 0xC001) = true := by decide

/-- 95_test_vectors.md V48.8: TAP. -/
theorem test_tap :
    after (step (code [0x06] ({ s0 with a := 0x00 }))) (fun t =>
      t.iDelay == true && t.ccr.toByte == 0x00 && t.pc == 0xC001) = true := by decide

/-- 95_test_vectors.md V48.12: TPA. -/
theorem test_tpa :
    after (step (code [0x07] ({ s0 with ccr := ⟨true, true, true, false, false, true, false, true⟩ }))) (fun t =>
      t.a == 0xE5 && t.ccr.toByte == 0xE5 && t.pc == 0xC001) = true := by decide

/-- 95_test_vectors.md V48.13: NOP. -/
theorem test_nop :
    after (step (code [0x01] (s0))) (fun t =>
      t.ccr.toByte == 0xD0 && t.pc == 0xC001) = true := by decide

/-- 95_test_vectors.md V48.14: SWI. -/
theorem test_swi :
    after (step (code [0x3F] (store ({ s0 with a := 0x11, b := 0x22, ix := 0x3344, iy := 0x5566, ccr := ⟨true, true, false, false, false, true, false, true⟩ }) [(0xFFF6, 0xD0), (0xFFF7, 0x00)]))) (fun t =>
      t.sp == 0x01F6 && holds t 0x01FF 0x01 && holds t 0x01FE 0xC0 && holds t 0x01FD 0x66 && holds t 0x01FC 0x55 && holds t 0x01FB 0x44 && holds t 0x01FA 0x33 && holds t 0x01F9 0x11 && holds t 0x01F8 0x22 && holds t 0x01F7 0xC5 && t.ccr.toByte == 0xD5 && t.pc == 0xD000) = true := by decide

/-- 95_test_vectors.md V48.15: RTI. -/
theorem test_rti :
    after (step (code [0x3B] (store ({ s0 with sp := 0x01F6 }) [(0x01F7, 0xC5), (0x01F8, 0x22), (0x01F9, 0x11), (0x01FA, 0x33), (0x01FB, 0x44), (0x01FC, 0x55), (0x01FD, 0x66), (0x01FE, 0xC0), (0x01FF, 0x01)]))) (fun t =>
      t.a == 0x11 && t.b == 0x22 && t.ix == 0x3344 && t.iy == 0x5566 && t.sp == 0x01FF && t.ccr.toByte == 0xC5 && t.pc == 0xC001) = true := by decide

/-- 95_test_vectors.md V48.18: WAI. -/
theorem test_wai :
    after (step (code [0x3E] ({ s0 with a := 0x11, b := 0x22, ix := 0x3344, iy := 0x5566, ccr := ⟨true, true, false, false, false, false, false, false⟩ }))) (fun t =>
      t.sp == 0x01F6 && t.runState == .waiting && holds t 0x01FF 0x01 && holds t 0x01FE 0xC0 && holds t 0x01FD 0x66 && holds t 0x01FC 0x55 && holds t 0x01FB 0x44 && holds t 0x01FA 0x33 && holds t 0x01F9 0x11 && holds t 0x01F8 0x22 && holds t 0x01F7 0xC0 && t.ccr.toByte == 0xC0 && t.pc == 0xC001) = true := by decide

/-- 95_test_vectors.md V48.20: STOP. -/
theorem test_stop :
    after (step (code [0xCF] ({ s0 with ccr := ⟨false, true, false, true, false, false, false, false⟩ }))) (fun t =>
      t.runState == .stopped && t.ccr.toByte == 0x50 && t.pc == 0xC001) = true := by decide

/-! ### Faults, run states and the environment (95_test_vectors.md section 3) -/

/-- The state of E1 and E2: registers, vectors, I clear. -/
def e0 : State :=
  store { s0 with a := 0x11, b := 0x22, ix := 0x3344, iy := 0x5566, ccr := ⟨true, true, false, false, false, false, false, true⟩ }
    [(0xFFF2, 0xC2), (0xFFF3, 0x00), (0xFFF4, 0xC3), (0xFFF5, 0x00), (0xFFF6, 0xC1), (0xFFF7, 0x00), (0xFFF8, 0xC4),
      (0xFFF9, 0x00), (0xFFFE, 0xC0), (0xFFFF, 0x00)]

/-- VF.8: a read of a byte that nothing has written faults. -/
theorem test_unwritten_read :
    (match step (code [0x96, 0x40] s0) with | .fault f => f == .unwrittenRead 0x0040 | _ => false) = true := by decide

/-- VF.1: the policy is fault at reset. -/
theorem test_illegal_fault :
    (match step (code [0x41] s0) with
      | .fault f => f == .illegalOpcode 0xC000 [0x41]
      | _ => false) = true := by decide

/-- V48.21: TEST outside the test modes is refused. -/
theorem test_test_refused :
    (match step (code [0x00] s0) with | .refused r => r == .testOutsideTestModes | _ => false) = true := by decide

/-- 48_ccr_system.md R414: in a test mode TEST goes on without end, and a reset ends it. -/
theorem test_test_endless :
    after (step (code [0x00] { e0 with params := { defaultParams with testMode := true } })) (fun t =>
      t.runState == .testing && after (step t) (fun u => u == t) &&
        after (step { t with inputs := [⟨some .reset, []⟩] }) (fun u => u.runState == .running)) = true := by decide

/-- E1: the whole frame of an IRQ entry. -/
theorem test_irq_entry :
    after (step { e0 with pending := [.interrupt .irq] }) (fun t =>
      holds t 0x01FF 0x00 && holds t 0x01FE 0xC0 && holds t 0x01FD 0x66 && holds t 0x01FC 0x55 && holds t 0x01FB 0x44 &&
      holds t 0x01FA 0x33 && holds t 0x01F9 0x11 && holds t 0x01F8 0x22 && holds t 0x01F7 0xC1 && t.sp == 0x01F6 &&
      t.ccr.toByte == 0xD1 && t.pc == 0xC200 && t.a == 0x11 && t.pending == [.interrupt .irq]) = true := by decide

/-- E2: XIRQ sets X and I. -/
theorem test_xirq_entry :
    after (step { e0 with ccr := ⟨true, false, false, false, false, false, false, true⟩, pending := [.interrupt .irq, .interrupt .xirq] }) (fun t =>
      holds t 0x01F7 0x81 && t.sp == 0x01F6 && t.ccr.toByte == 0xD1 && t.pc == 0xC300) = true := by decide

/-- E3 and E4: masked requests do not keep the next instruction from running. -/
theorem test_masked_requests :
    after (step (code [0x01] { e0 with ccr := { e0.ccr with i := true }, pending := [.interrupt .irq, .interrupt .xirq] })) (fun t =>
      t.pc == 0xC001 && t.sp == 0x01FF) = true := by decide

/-- E6: after CLI one instruction runs before the pending IRQ is taken. -/
theorem test_cli_delay :
    after (step (code [0x0E, 0x01] { e0 with ccr := s0.ccr, pending := [.interrupt .irq] })) (fun t =>
      t.iDelay && t.pc == 0xC001 && after (step t) (fun u => u.pc == 0xC002 && !u.iDelay &&
        after (step u) (fun v => v.pc == 0xC200 && holds v 0x01FF 0x02))) = true := by decide

/-- E8: an IRQ ends the wait and stacks nothing. -/
theorem test_wai_exit :
    after (step { e0 with runState := .waiting, pending := [.interrupt .irq] }) (fun t =>
      t.pc == 0xC200 && t.sp == 0x01FF && t.ccr.i && t.runState == .running && t.mem == e0.mem) = true := by decide

/-- E10: a masked XIRQ ends STOP without an entry. -/
theorem test_stop_masked_xirq :
    after (step { e0 with runState := .stopped, pending := [.interrupt .xirq] }) (fun t =>
      t.runState == .running && t.pc == 0xC000 && t.sp == 0x01FF) = true := by decide

/-- E11: an unmasked XIRQ ends STOP with the full entry. -/
theorem test_stop_xirq :
    after (step { e0 with runState := .stopped, ccr := { e0.ccr with x := false }, pending := [.interrupt .xirq] }) (fun t =>
      t.runState == .running && t.pc == 0xC300 && t.sp == 0x01F6) = true := by decide

/-- E12: a masked IRQ leaves the machine stopped. -/
theorem test_stop_irq_masked :
    after (step { e0 with runState := .stopped, ccr := s0.ccr, pending := [.interrupt .irq] }) (fun t =>
      t.runState == .stopped && t.pc == 0xC000) = true := by decide

/-- E13: reset in the stopped state. -/
theorem test_reset :
    after (step { e0 with runState := .stopped, inputs := [⟨some .reset, []⟩] }) (fun t =>
      t.ccr.s && t.ccr.x && t.ccr.i && t.runState == .running && t.pc == 0xC000 && t.mem == e0.mem) = true := by decide

/-- E14: the illegal opcode trap stacks the address of the illegal byte. -/
theorem test_illegal_trap :
    after (step (code [0x41] { e0 with
      ccr := ⟨true, true, false, false, false, false, false, false⟩
      params := { defaultParams with illegalOpcode := .trap } })) (fun t =>
      holds t 0x01FF 0x00 && holds t 0x01FE 0xC0 && holds t 0x01F7 0xC0 && t.ccr.i && t.pc == 0xC400) = true := by decide

/-- V42.56: DAA with nothing to adjust; V is free. -/
theorem test_daa :
    after (step (code [0x19] { s0 with a := 0x9A })) (fun t =>
      t.a == 0x00 && t.ccr.c && t.ccr.z && !t.ccr.n && t.draws == 1) = true := by decide

/-- V43.8: IDIV by zero; the remainder is free. -/
theorem test_idiv_by_zero :
    after (step (code [0x02] { s0 with a := 0x12, b := 0x34 })) (fun t =>
      t.ix == 0xFFFF && t.ccr.c && !t.ccr.z && t.draws == 1) = true := by decide

/-- Placing an instruction where the next step fetches. -/
theorem test_fetch_word :
    after (step (State.reset.withFetchWord 16 0x5586)) (fun t => t.a == 0x55 && t.pc == 0xC002) = true := by decide

/-! ### One witness for each statement with hypotheses -/

/-- Vectors, two operand bytes at $0010, a frame above SP, a NOP at PC; X set, I clear; no request. -/
def w : State :=
  store e0 [(0x0010, 0x80), (0x0011, 0x01), (0x0200, 0xC1), (0x0201, 0x22), (0x0202, 0x11), (0x0203, 0x33), (0x0204, 0x44),
    (0x0205, 0x55), (0x0206, 0x66), (0x0207, 0xC0), (0x0208, 0x00), (0xC000, 0x01)]

/-- The same on a platform with a device at $1000, nothing at $8000 and ROM at $E000, and a byte in the ROM. -/
def wp : State :=
  store { w with params := { defaultParams with regions :=
    [⟨0x1000, 0x40, .device⟩, ⟨0x8000, 0x100, .absent⟩, ⟨0xE000, 0x1000, .rom⟩] } } [(0xE000, 0x7F)]

theorem witness_DecodeOfEncode : (Instr.brset (.indY 0xFF) 0x80 0x80).WF ∧ (Instr.bhs 0x7F).WF := by decide

theorem witness_EncodeOfDecode : decode [0x18, 0xCE, 0x80, 0x00, 0x55] = .ok (.ldy (.imm 0x8000), 4) := by decide

theorem witness_CycleColumn : Instr.test.WF ∧ Instr.fdiv.WF ∧ ¬ (Instr.inc (.dir 0x00)).WF := by decide

theorem witness_RunsNext : w.RunsNext := ⟨rfl, rfl, rfl⟩

theorem witness_StepRunsDecodedInstruction : w.RunsNext ∧ w.present.fetch = .ok (.instr .nop 1) := ⟨witness_RunsNext, rfl⟩

/-- An instruction whose bytes lie across the end of the address space. -/
theorem witness_StepRunsEncodedInstruction :
    (store { w with pc := 0xFFFF } [(0xFFFF, 0x86), (0x0000, 0x55)]).RunsNext ∧ (Instr.ldaa (.imm 0x55)).WF ∧
    (store { w with pc := 0xFFFF } [(0xFFFF, 0x86), (0x0000, 0x55)]).present.Holds (.ldaa (.imm 0x55)) := by
  refine ⟨⟨rfl, rfl, rfl⟩, rfl, ?_⟩
  unfold State.Holds
  decide

theorem witness_FrameInRam : w.FrameInRam := fun _ _ => rfl

/-- A frame that wraps below $0000. -/
theorem witness_FrameInRam_wrap : ({ w with sp := 0x0003 } : State).FrameInRam := fun _ _ => rfl

theorem witness_HandlerAt : w.HandlerAt .swi 0xC100 ∧ w.HandlerAt .illop 0xC400 ∧ w.HandlerAt (.interrupt .irq) 0xC200 ∧
    w.HandlerAt (.interrupt .xirq) 0xC300 := by
  refine ⟨⟨?_, ?_, rfl⟩, ⟨?_, ?_, rfl⟩, ⟨?_, ?_, rfl⟩, ?_, ?_, rfl⟩ <;> decide

theorem witness_SoftwareInterruptEnters : w.FrameInRam ∧ w.HandlerAt .swi 0xC100 ∧
    w.framed.read16 (vectorAddress w.params.vectors .swi) = .ok 0xC100 := ⟨witness_FrameInRam, witness_HandlerAt.1, rfl⟩

/-- A frame in ROM, one where nothing is, and one at a device, with a readable vector. -/
theorem witness_SoftwareInterruptEnters_elsewhere :
    (wp.setSp 0xE100).framed.read16 (vectorAddress wp.params.vectors .swi) = .ok 0xC100 ∧
    (wp.setSp 0x8050).framed.read16 (vectorAddress wp.params.vectors .swi) = .ok 0xC100 ∧
    (wp.setSp 0x1020).framed.read16 (vectorAddress wp.params.vectors .swi) = .ok 0xC100 := ⟨rfl, rfl, rfl⟩

/-- `w` with an unlisted byte at PC, under a policy. -/
def wIllegal (p : IllegalOpcodePolicy) : State :=
  store { w with params := { defaultParams with illegalOpcode := p } } [(0xC000, 0x18), (0xC001, 0x00)]

theorem witness_IllegalOpcodeStep_fault : (wIllegal .fault).RunsNext ∧
    (wIllegal .fault).present.fetch = .ok (.illegal [0x18, 0x00]) ∧ (wIllegal .fault).params.illegalOpcode = .fault :=
  ⟨⟨rfl, rfl, rfl⟩, rfl, rfl⟩

theorem witness_IllegalOpcodeStep_trap : (wIllegal .trap).RunsNext ∧
    (wIllegal .trap).present.fetch = .ok (.illegal [0x18, 0x00]) ∧ (wIllegal .trap).params.illegalOpcode = .trap ∧
    ((wIllegal .trap).present.afterFetch 2).FrameInRam ∧ ((wIllegal .trap).present.afterFetch 2).HandlerAt .illop 0xC400 ∧
    ((wIllegal .trap).present.afterFetch 2).framed.read16
      (vectorAddress (wIllegal .trap).params.vectors .illop) = .ok 0xC400 := by
  refine ⟨⟨rfl, rfl, rfl⟩, rfl, rfl, ?_, ⟨?_, ?_, rfl⟩, rfl⟩
  · exact fun _ _ => rfl
  · decide
  · decide

/-- An unlisted byte at PC under the policy trap, on the platform of `wp`, with SP at an address. -/
def wIllegalAt (sp : Word) : State :=
  store { wp with sp := sp, params := { wp.params with illegalOpcode := .trap } } [(0xC000, 0x18), (0xC001, 0x00)]

/-- A frame in ROM, one where nothing is, and one at a device, with a readable vector. -/
theorem witness_IllegalOpcodeStep_elsewhere : ∀ sp ∈ [0xE100, 0x8050, 0x1020], (wIllegalAt sp).RunsNext ∧
    (wIllegalAt sp).present.fetch = .ok (.illegal [0x18, 0x00]) ∧ (wIllegalAt sp).params.illegalOpcode = .trap ∧
    ((wIllegalAt sp).present.afterFetch 2).framed.read16
      (vectorAddress (wIllegalAt sp).params.vectors .illop) = .ok 0xC400 := by
  simp only [List.forall_mem_cons, List.not_mem_nil, false_implies, implies_true, and_true]
  exact ⟨⟨⟨rfl, rfl, rfl⟩, rfl, rfl, rfl⟩, ⟨⟨rfl, rfl, rfl⟩, rfl, rfl, rfl⟩, ⟨rfl, rfl, rfl⟩, rfl, rfl, rfl⟩

/-- An unlisted byte at PC under the policy trap, and no vectors. -/
def wTrapNoVector : State :=
  store { s0 with params := { defaultParams with illegalOpcode := .trap } } [(0xC000, 0x18), (0xC001, 0x00)]

/-- IRQ pending and not masked in a run state, and no vectors. -/
def wNoVector (r : RunState) : State := { s0 with ccr := { s0.ccr with i := false }, runState := r, pending := [.interrupt .irq] }

/-- `w` with standing requests. -/
def wPending (l : List IntSource) : State := { w with pending := l.map .interrupt }

theorem witness_InterruptEnters : (wPending [.irq]).presentedReset = none ∧ (wPending [.irq]).present.runState = .running ∧
    (wPending [.irq]).present.chosen = some .irq ∧ (wPending [.irq]).present.FrameInRam ∧
    (wPending [.irq]).present.HandlerAt (.interrupt .irq) 0xC200 ∧
    (wPending [.irq]).present.framed.read16 (vectorAddress w.params.vectors (.interrupt .irq)) = .ok 0xC200 :=
  ⟨rfl, rfl, rfl, witness_FrameInRam, witness_HandlerAt.2.2.1, rfl⟩

theorem witness_InterruptEnters_xirq : ({ wPending [.sci, .xirq] with ccr := s0.ccr } : State).present.chosen = none ∧
    ({ wPending [.sci, .xirq] with ccr := { s0.ccr with x := false } } : State).present.chosen = some .xirq := by decide

/-- The state SWI leaves is one that an entry left. -/
theorem witness_ReturnUndoesEntry : w.Entered (result (exec .swi w)) .swi 0xC100 := by
  have h : w.takeException .swi = .ok (result (exec .swi w)) := rfl
  obtain ⟨pc, hpc, e⟩ := takeException_eq_ok.1 h
  have hr : ∀ x, x ∉ w.frameAddresses → w.kind x ≠ .device → (result (exec .swi w)).read8 x = w.read8 x :=
    fun x hx hk => by
      rw [e]
      exact ((accessed_framed w).trans (accessed_handled _ _ _ []) (framed_params w)).read8 (by simp [State.handled])
        (by simpa using hx) hk
  refine ⟨⟨?_, ?_, ?_, ?_, ?_, ?_, ?_, ?_, ?_, ?_, fun _ _ => (nofun), hr⟩, ⟨?_, ?_, ?_, ?_, ?_, ?_, ?_, ?_⟩, ?_, ?_, ?_, ?_⟩ <;> decide +kernel

theorem witness_RequestChosen : (wPending [.sci, .irq]).chosen = some .irq ∧ (wPending [.sci]).chosen = some .sci ∧
    (∀ j, .interrupt j ∈ (wPending [.xirq]).pending → (wPending [.xirq]).unmasked j = false) ∧
    (wPending [.xirq]).pending ≠ [] := by
  refine ⟨rfl, rfl, fun j hj => ?_, nofun⟩
  cases j <;> first | rfl | exact absurd hj (by decide)

/-- Resets as the input and in the pending set, in either order: the first rank acts, and before any interrupt. -/
theorem witness_RequestChosen_resets :
    ({ w with inputs := [⟨some .cop, [.interrupt .irq, .reset .clockMonitor]⟩] } : State).presentedReset =
      some .clockMonitor ∧
    ({ w with inputs := [⟨some .reset, [.reset .cop]⟩] } : State).presentedReset = some .reset ∧
    ({ w with pending := [.reset .cop, .reset .clockMonitor, .reset .reset] } : State).presentedReset = some .reset ∧
    (wPending [.irq, .xirq]).presentedReset = none := by decide

/-- A reset-class source that stands in the pending set acts at each boundary, before an unmasked IRQ (60_exceptions.md R424,
R426). -/
theorem test_reset_pending :
    after (step (store { w with pending := [.interrupt .irq, .reset .cop] } [(0xFFFA, 0xC7), (0xFFFB, 0x00)])) (fun t =>
      t.pc == 0xC700 && t.ccr.i && t.ccr.x && t.presentedReset == some .cop) = true := by decide

theorem witness_WaitInstruction : w.FrameInRam ∧ (∃ t, exec .wai w = .next t) ∧ wp.kind 0xE000 = .rom :=
  ⟨witness_FrameInRam, ⟨_, rfl⟩, rfl⟩

theorem witness_WaitEnds_stays : ({ w with runState := .waiting, pending := [.interrupt .xirq] } : State).presentedReset = none ∧
    ({ w with runState := .waiting, pending := [.interrupt .xirq] } : State).present.runState = .waiting ∧
    ({ w with runState := .waiting, pending := [.interrupt .xirq] } : State).present.chosen = none := by decide

theorem witness_WaitEnds_enters : ({ w with runState := .waiting, pending := [.interrupt .irq] } : State).presentedReset = none ∧
    ({ w with runState := .waiting, pending := [.interrupt .irq] } : State).present.chosen = some .irq ∧
    ({ w with runState := .waiting, pending := [.interrupt .irq] } : State).present.read16
      (vectorAddress w.params.vectors (.interrupt .irq)) = .ok 0xC200 := by decide

/-- `w` stopped, with standing requests. -/
def wStopped (l : List IntSource) : State := { w with runState := .stopped, pending := l.map .interrupt }

theorem witness_StopInstruction : w.ccr.s = true ∧ ({ w with ccr := { w.ccr with s := false } } : State).ccr.s = false := by
  decide

theorem witness_StopInstruction_entry : (wStopped [.irq]).presentedReset = none ∧
    (wStopped [.irq]).present.runState = .stopped ∧ (wStopped [.irq]).present.chosenInStop = some .irq ∧
    (wStopped [.irq]).present.FrameInRam ∧ (wStopped [.irq]).present.HandlerAt (.interrupt .irq) 0xC200 ∧
    (wStopped [.irq]).present.framed.read16 (vectorAddress w.params.vectors (.interrupt .irq)) = .ok 0xC200 :=
  ⟨rfl, rfl, rfl, witness_FrameInRam, witness_HandlerAt.2.2.1, rfl⟩

/-- A frame in ROM, one where nothing is, and one at a device, with a readable vector, from Stopped. -/
theorem witness_StopInstruction_elsewhere : ∀ sp ∈ [0xE100, 0x8050, 0x1020],
    ({ wp with sp := sp, runState := .stopped, pending := [.interrupt .irq] } : State).presentedReset = none ∧
    ({ wp with sp := sp, runState := .stopped, pending := [.interrupt .irq] } : State).present.chosenInStop = some .irq ∧
    ({ wp with sp := sp, runState := .stopped, pending := [.interrupt .irq] } : State).present.framed.read16
      (vectorAddress wp.params.vectors (.interrupt .irq)) = .ok 0xC200 := by
  simp only [List.forall_mem_cons, List.not_mem_nil, false_implies, implies_true, and_true]
  exact ⟨⟨rfl, rfl, rfl⟩, ⟨rfl, rfl, rfl⟩, rfl, rfl, rfl⟩

/-- With X set a pending XIRQ does not keep IRQ from ending the stop; with X clear XIRQ is first. -/
theorem witness_StopInstruction_order : (wStopped [.xirq, .irq]).chosenInStop = some .irq ∧
    ({ wStopped [.irq, .xirq] with ccr := { w.ccr with x := false } } : State).chosenInStop = some .xirq ∧
    (wStopped [.sci, .rtii]).chosenInStop = none := by decide

theorem witness_StopInstruction_resumes : (wStopped [.xirq]).present.chosenInStop = none ∧
    .interrupt .xirq ∈ (wStopped [.xirq]).params.priority ∧ .interrupt .xirq ∈ (wStopped [.xirq]).present.pending ∧
    (wStopped [.xirq]).ccr.x = true := by decide

theorem witness_StopInstruction_stays : (wStopped [.sci]).presentedReset = none ∧
    (wStopped [.sci]).present.chosenInStop = none ∧
    ¬ (.interrupt .xirq ∈ (wStopped [.sci]).params.priority ∧ .interrupt .xirq ∈ (wStopped [.sci]).present.pending ∧
      (wStopped [.sci]).ccr.x = true) := by decide

/-- `w` with I set. -/
def wI : State := { w with ccr := { w.ccr with i := true } }

theorem witness_DelayAfterClearingMask :
    (∃ t, exec .cli wI = .next t ∧ wI.ccr.i = true ∧ t.ccr.i = false) ∧
    (∃ t, exec .tap { wI with a := 0xC0 } = .next t ∧ wI.ccr.i = true ∧ t.ccr.i = false) ∧
    (∃ t, exec .rti w = .next t) := ⟨⟨_, rfl, rfl, rfl⟩, ⟨_, rfl, rfl, rfl⟩, _, rfl⟩

theorem witness_DelayAfterClearingMask_step : ({ wPending [.irq] with iDelay := true } : State).presentedReset = none ∧
    ({ wPending [.irq] with iDelay := true } : State).present.runState = .running ∧
    ¬ (.interrupt .xirq ∈ ({ wPending [.irq] with iDelay := true } : State).present.pending ∧ w.ccr.x = false) := by decide

/-- `w` with a reset presented at the next boundary. -/
def wReset : State := { w with inputs := [⟨some .reset, []⟩], runState := .stopped }

theorem witness_ResetStep : wReset.presentedReset = some .reset ∧
    (wReset.noteDevice (.reset .reset)).read16 (vectorAddress wReset.params.vectors (.reset .reset)) = .ok 0xC000 := by decide

theorem witness_StepNext : ∃ t, step w = .next t := ⟨_, rfl⟩

theorem witness_StepKeepsInvariant : wI.Inv ∧ ∃ t, step wI = .next t := by
  refine ⟨⟨?_, ?_, ?_⟩, _, rfl⟩ <;> decide

/-- The statements that hold of every instruction: one that runs, a register it does not write, an address it does not
store to. -/
theorem witness_frames : ∃ t, exec (.std (.dir 0xFF)) w = .next t ∧ Reg.ix ∉ (Instr.std (.dir 0xFF)).writes ∧
    (0x0101 : Word) ∉ storedAddresses w (.std (.dir 0xFF)) ∧ (0x0100 : Word) ∈ storedAddresses w (.std (.dir 0xFF)) ∧
    (Instr.std (.dir 0xFF)).writesPc = false := ⟨_, rfl, by decide, by decide, by decide, rfl⟩

theorem witness_XNeverRisesBySoftware :
    (∃ t, exec .sei w = .next t) ∧ (∃ t, exec .tap w = .next t) ∧
    (∃ t, exec .rti w = .next t ∧ w.read8 (w.sp + 1) = .ok 0xC1) ∧
    (∃ t, w.resetStep .reset = .ok t) ∧ (∃ t, w.takeException (.interrupt .xirq) = .ok t) ∧ w.ccr.x = true :=
  ⟨⟨_, rfl⟩, ⟨_, rfl⟩, ⟨_, rfl, rfl⟩, ⟨_, rfl⟩, ⟨_, rfl⟩, rfl⟩

/-- A step that raises X: the XIRQ entry, and a reset. -/
theorem witness_XNeverRisesBySoftware_step :
    (after (step { wPending [.xirq] with ccr := { w.ccr with x := false } }) fun t => t.ccr.x) = true ∧
    (after (step { wReset with ccr := { w.ccr with x := false } }) fun t => t.ccr.x) = true := by decide

theorem witness_OnlyTheseStops :
    exec (.ldaa (.mem (.ext 0x4000))) w = .fault (.unwrittenRead 0x4000) ∧
    exec (.ldaa (.mem (.ext 0x8000))) wp = .fault (.unwrittenRead 0x8000) ∧
    exec .test w = .refused .testOutsideTestModes ∧
    exec .daa { w with a := 0x0A, ccr := { w.ccr with h := true }, params := { w.params with daaDomain := .refuse } } =
      .refused .daaOutsideDomain := ⟨rfl, rfl, rfl, rfl⟩

/-- Each kind of address, at the edges of its region, and a word across the end of the address space. -/
theorem witness_StoredByte : wp.kind 0x1000 = .device ∧ wp.kind 0x103F = .device ∧ wp.kind 0x1040 = .ram ∧
    wp.kind 0x0FFF = .ram ∧ wp.kind 0xE000 = .rom ∧ wp.kind 0xEFFF = .rom ∧ wp.kind 0x8000 = .absent ∧
    wp.kind 0xFFFF = .ram ∧ wp.kind (0xFFFF + 1) = .ram := by decide

/-- Memory, and a device, at either end of its region. -/
theorem witness_OperandForms : w.read8 (w.ea (.dir 0x10)) = .ok 0x80 ∧
    (w.afterRead (w.ea (.dir 0x10))).read8 (w.ea (.dir 0x10) + 1) = .ok 0x01 ∧
    wp.kind 0x1000 = .device ∧ wp.kind 0x103F = .device ∧ wp.kind 0x1040 ≠ .device := ⟨rfl, rfl, rfl, rfl, by decide⟩

/-- What a device sees of an INC and of a CLR: a read, then a write (20_memory.md R87, R88, R91). -/
theorem test_device_inc_clr :
    (result (exec (.clr (.ext 0x1000)) wp)).deviceLog = [.write 0x1000 0, .read 0x1000] ∧
    (result (exec (.inc (.ext 0x1000)) wp)).deviceLog =
      [.write 0x1000 (inc8 (deviceByte [] 0x1000) wp.ccr).1, .read 0x1000] := ⟨rfl, rfl⟩

/-- A 16-bit access to devices is high byte first (20_memory.md R73, R74), and a push goes downward (R79). -/
theorem test_device_word :
    (result (exec (.ldx (.mem (.ext 0x1000))) wp)).deviceLog = [.read (0x1000 + 1), .read 0x1000] ∧
    (result (exec (.stx (.ext 0x1000)) wp)).deviceLog =
      [.write (0x1000 + 1) (loByte wp.ix), .write 0x1000 (hiByte wp.ix)] ∧
    (result (exec .pshx (wp.setSp 0x1001))).deviceLog =
      [.write (0x1001 - 1) (hiByte wp.ix), .write 0x1001 (loByte wp.ix)] := ⟨rfl, rfl, rfl⟩

theorem witness_AccessStops :
    w.opnd8 (.mem (.ext 0x4000)) = .error (.fault (.unwrittenRead 0x4000)) ∧
    w.opnd16 (.mem (.dir 0x11)) = .error (.fault (.unwrittenRead 0x0012)) ∧
    wp.read8 (wp.ea (.ext 0x8000)) = .error (.fault (.unwrittenRead 0x8000)) ∧
    ({ w with sp := 0x3FFF } : State).read8 (({ w with sp := 0x3FFF } : State).sp + 1) =
      .error (.fault (.unwrittenRead 0x4000)) := by decide

/-- A vector without a value: of SWI, of the illegal opcode trap, of an interrupt while running, stopped and waiting, and of
a reset; and an instruction without a value. -/
theorem witness_AccessStops_vector :
    s0.framed.read16 (vectorAddress s0.params.vectors .swi) = .error (.fault (.unwrittenRead 0xFFF6)) ∧
    wTrapNoVector.RunsNext ∧ wTrapNoVector.present.fetch = .ok (.illegal [0x18, 0x00]) ∧
    wTrapNoVector.params.illegalOpcode = .trap ∧
    (wTrapNoVector.present.afterFetch 2).framed.read16 (vectorAddress wTrapNoVector.params.vectors .illop) =
      .error (.fault (.unwrittenRead 0xFFF8)) ∧
    (wNoVector .running).present.chosen = some .irq ∧ (wNoVector .stopped).present.chosenInStop = some .irq ∧
    (wNoVector .waiting).present.chosen = some .irq ∧
    (wNoVector .running).present.framed.read16 (vectorAddress s0.params.vectors (.interrupt .irq)) =
      .error (.fault (.unwrittenRead 0xFFF2)) ∧
    (wNoVector .waiting).present.read16 (vectorAddress s0.params.vectors (.interrupt .irq)) =
      .error (.fault (.unwrittenRead 0xFFF2)) ∧
    (s0.noteDevice (.reset .cop)).read16 (vectorAddress s0.params.vectors (.reset .cop)) =
      .error (.fault (.unwrittenRead 0xFFFA)) ∧
    s0.RunsNext ∧ s0.present.fetch = .error (.fault (.unwrittenRead 0xC000)) :=
  ⟨rfl, ⟨rfl, rfl, rfl⟩, rfl, rfl, rfl, rfl, rfl, rfl, rfl, rfl, rfl, ⟨rfl, rfl, rfl⟩, rfl⟩

/-- A word above SP whose second byte has no value, and a frame whose ninth byte has none. -/
theorem witness_AccessStops_pulls :
    ({ w with sp := 0x0207 } : State).read16 (({ w with sp := 0x0207 } : State).sp + 1) =
      .error (.fault (.unwrittenRead 0x0209)) ∧
    (∀ j < 8, ∃ v, ({ w with sp := 0x0200 } : State).read8 (0x0200 + BitVec.ofNat 16 (j + 1)) = .ok v) ∧
    ({ w with sp := 0x0200 } : State).read8 (0x0200 + BitVec.ofNat 16 (8 + 1)) = .error (.fault (.unwrittenRead 0x0209)) := by
  refine ⟨rfl, fun j hj => ?_, rfl⟩
  have h : ∀ j < 8, (({ w with sp := 0x0200 } : State).read8 (0x0200 + BitVec.ofNat 16 (j + 1))).isOk = true := by decide +kernel
  cases e : ({ w with sp := 0x0200 } : State).read8 (0x0200 + BitVec.ofNat 16 (j + 1)) with
  | ok v => exact ⟨v, rfl⟩
  | error x => have := h j hj; rw [e] at this; cases this

/-- A readable byte operand, immediate and in memory: Loads, ByteAdditions, ByteSubtractions, Logic, BranchesAfterCompare. -/
theorem witness_opnd8 : w.opnd8 (.imm 0x80) = .ok 0x80 ∧ w.opnd8 (.mem (.dir 0x10)) = .ok 0x80 ∧
    (∃ u, exec (.cmpa (.mem (.dir 0x10))) w = .next u) := ⟨rfl, rfl, _, rfl⟩

/-- A readable word operand: Loads, WordArithmetic, BranchesAfterCompare. -/
theorem witness_opnd16 : w.opnd16 (.imm 0x8000) = .ok 0x8000 ∧ w.opnd16 (.mem (.dir 0x10)) = .ok 0x8001 ∧
    (∃ u, exec (.cpx (.mem (.dir 0x10))) w = .next u) := ⟨rfl, rfl, _, rfl⟩

/-- A readable byte in RAM, in ROM and at a device: ClearsAndTests, IncrementDecrement, NegateComplement, BitSetAndClear, MemoryShifts,
ComplementaryBranches, BitBranches. -/
theorem witness_read8 : w.read8 (w.ea (.dir 0x10)) = .ok 0x80 ∧ wp.read8 (wp.ea (.ext 0xE000)) = .ok 0x7F ∧
    wp.read8 (wp.ea (.ext 0x1000)) = .ok (deviceByte [] 0x1000) ∧ (7 : Nat) < 8 := ⟨rfl, rfl, rfl, by decide⟩

theorem witness_StackMoves : w.read8 (w.sp + 1) = .ok 0xC1 ∧
    w.read16 (w.sp + 1) = .ok 0xC122 := by decide

theorem witness_PushAndPullOperations : w.read8 (BitVec.ofNat 16 (w.sp.toNat + 1)) = .ok 0xC1 ∧
    ({ w with sp := 0xFFFF } : State).read8 (BitVec.ofNat 16 (({ w with sp := 0xFFFF } : State).sp.toNat + 1)) =
      .error (.fault (.unwrittenRead 0x0000)) := by decide

/-- Also at SP = 0, where the pushes wrap. -/
theorem witness_PushThenPullAndCallThenReturn : w.kind w.sp = .ram ∧ w.kind (w.sp - 1) = .ram ∧ w.kind 0x0000 = .ram ∧
    w.kind (0x0000 - 1) = .ram ∧ (∃ m, Instr.jsr (.dir 0xFF) = .jsr m) ∧ ∃ rr, Instr.bsr 0x80 = .bsr rr :=
  ⟨rfl, rfl, rfl, rfl, ⟨_, rfl⟩, _, rfl⟩

theorem witness_DecimalAdjust : w.params.daaDomain = .total := rfl

theorem witness_DecimalAdjustIsDecimal : (99 : Nat) < 100 ∧ ({ w with a := 0x99 } : State).a = Spec.bcd 99 ∧
    ({ w with a := 0x99 } : State).opnd8 (.imm 0x99) = .ok (Spec.bcd 99) := by decide

/-- `w` under the restricted domain of DAA. -/
def wRefuse : State := { w with params := { defaultParams with daaDomain := .refuse } }

/-- 99 + 99 + 1 leaves $33 with H and C set; no addition leaves $0A with H set. -/
theorem witness_DecimalAdjustDomain : wRefuse.params.daaDomain = .refuse ∧ Spec.FromBcdSum 0x33 true true ∧
    ¬ Spec.FromBcdSum 0x0A true false := by
  refine ⟨rfl, ⟨99, 99, true, by decide, by decide, by decide, by decide, by decide⟩, ?_⟩
  rintro ⟨p, q, cin, hp, hq, h1, h2, h3⟩
  have e : (0x0A : Byte).toNat = 10 := rfl
  have hpb : (Spec.bcd p).toNat = 16 * (p / 10) + p % 10 := by simp only [Spec.bcd, BitVec.toNat_ofNat]; omega
  have hqb : (Spec.bcd q).toNat = 16 * (q / 10) + q % 10 := by simp only [Spec.bcd, BitVec.toNat_ofNat]; omega
  have h2' : 15 < p % 10 + q % 10 + cin.toNat := by simpa using h2.symm
  have hc : cin.toNat ≤ 1 := by cases cin <;> decide
  rw [hpb, hqb] at h1
  omega

/-- Divisor not 0, 0; dividend below the divisor, equal to it. -/
theorem witness_MultiplyDivide : w.ix ≠ 0 ∧ ({ w with ix := 0 } : State).ix = 0 ∧ w.d.toNat < w.ix.toNat ∧
    ({ w with ix := 0x1122 } : State).ix.toNat ≤ ({ w with ix := 0x1122 } : State).d.toNat := by decide

theorem witness_DivisionIdentity : (∃ t, exec .idiv w = .next t) ∧ (∃ t, exec .fdiv w = .next t) ∧ w.ix ≠ 0 ∧
    w.d.toNat < w.ix.toNat := ⟨⟨_, rfl⟩, ⟨_, rfl⟩, by decide, by decide⟩

theorem witness_JumpsAndReturns : w.read16 (w.sp + 1) = .ok 0xC122 := by decide

theorem witness_LoadingTheConditionCodes : ∀ (k : Nat) (h : k < 9), w.readNth (w.sp + 1) k =
    .ok ([0xC1, 0x22, 0x11, 0x33, 0x44, 0x55, 0x66, 0xC0, 0x00] : List Byte)[k] := by decide

theorem witness_TestInstruction : w.params.testMode = false ∧
    ({ w with params := { w.params with testMode := true } } : State).params.testMode = true ∧
    ({ w with runState := .testing } : State).runState = .testing ∧
    ({ w with runState := .testing } : State).presentedReset = none := by decide

end Sys2Proof.Tests
end

section
/-! PROOF. Boundary: the step of a machine that runs its next instruction (00_scope.md R15). -/

namespace Sys2Proof.Machine

/-- Taking in what the environment presents leaves PC. -/
@[simp] theorem present_pc (s : State) : s.present.pc = s.pc := by
  unfold State.present
  cases s.inputs <;> rfl

/-- With no reset presented, the machine running and no request to take, a step is an instruction step. -/
theorem step_of_runsNext {s : State} (h : s.RunsNext) : step s = s.present.instrStep := by
  simp only [step, State.boundaryStep, h.noReset, State.runStep, h.running, State.runningStep, h.noRequest]

/-- An instruction step whose fetch decodes to an instruction runs it. -/
theorem instrStep_of_fetch {s : State} {i : Instr} {n : Nat} (h : s.fetch = .ok (.instr i n)) :
    s.instrStep = exec i (s.atInstr n) := by
  simp only [State.instrStep, h]

/-- Settles O6: the boundary comes to an instruction step, and the fetch to its instruction. -/
theorem stepRunsDecodedInstruction : Obligations.StepRunsDecodedInstruction := by
  intro s i n hruns hfetch
  rw [step_of_runsNext hruns, instrStep_of_fetch hfetch, State.atInstr, present_pc]

end Sys2Proof.Machine
end

section
/-! PROOF. Stops: where an instruction can stop. Reads alone stop, each at an address without a value; that is said once for every
shared operation and shape, for an address judged in the state that the instruction starts from. -/

namespace Sys2Proof.Machine

variable {s t : State}

/-! ### Addresses without a value -/

/-- No read of the address can be answered: no device is there, and either no byte was written or nothing is there
(10_state.md R57, 20_memory.md R84). -/
def State.NoValueAt (s : State) (x : Word) : Prop :=
  s.kind x ≠ .device ∧ (Memory.read s.mem x.toNat = none ∨ s.kind x = .absent)

/-- Only memory and the platform decide which addresses hold a value. -/
theorem State.NoValueAt.of_same {x : Word} (h : t.NoValueAt x) (hm : t.mem = s.mem) (hp : t.params = s.params) :
    s.NoValueAt x := by
  simpa only [State.NoValueAt, State.kind, hm, hp] using h

/-- A store takes no value away. -/
theorem State.NoValueAt.of_stored {x a : Word} {v : Byte} (h : (s.stored a v).NoValueAt x) : s.NoValueAt x := by
  obtain ⟨hdev, hnone⟩ := h
  rw [stored_kind] at hdev hnone
  refine ⟨hdev, hnone.imp_left fun hread => ?_⟩
  by_cases hram : s.kind a = .ram
  · rw [stored_ram v hram, State.setMem_mem] at hread
    by_cases hx : x.toNat = a.toNat
    · rw [hx, Memory.read_write_same] at hread
      cases hread
    · rwa [Memory.read_write_other _ hx] at hread
  · have hmem : (s.stored a v).mem = s.mem := by
      unfold State.stored
      rw [if_neg hram]
      split <;> rfl
    rwa [hmem] at hread

/-- A list of stores takes no value away. -/
theorem State.NoValueAt.of_stores {x : Word} (l : List (Word × Byte))
    (h : (l.foldl (fun u p => u.stored p.1 p.2) s).NoValueAt x) : s.NoValueAt x := by
  induction l generalizing s with
  | nil => exact h
  | cons p l ih => exact (ih h).of_stored

/-- Stacking a frame takes no value away. -/
theorem State.NoValueAt.of_framed {x : Word} (h : s.framed.NoValueAt x) : s.NoValueAt x := by
  rw [State.framed] at h
  exact .of_stores _ (h.of_same (State.setSp_mem _ _) (State.setSp_params _ _))

/-! ### Operations that stop at such an address alone -/

/-- If the operation stops, it is the fault of reading an address without a value. -/
def State.StopsAtNoValue {α : Type} (s : State) (r : Except Stop α) : Prop :=
  ∀ e, r = .error e → ∃ x, e = .fault (.unwrittenRead x) ∧ s.NoValueAt x

/-- An address without a value may be judged in any state that lists no more values. -/
theorem State.StopsAtNoValue.mono {α : Type} {r : Except Stop α} (h : t.StopsAtNoValue r)
    (hst : ∀ x, t.NoValueAt x → s.NoValueAt x) : s.StopsAtNoValue r := fun e he =>
  let ⟨x, hx, hv⟩ := h e he
  ⟨x, hx, hst x hv⟩

theorem stopsAtNoValue_ok {α : Type} (a : α) : s.StopsAtNoValue (.ok a) := nofun

/-- A sequence stops as its parts do; the second runs on the first one's answer. -/
theorem stopsAtNoValue_bind {α β : Type} {r : Except Stop α} {f : α → Except Stop β} (hr : s.StopsAtNoValue r)
    (hf : ∀ a, r = .ok a → s.StopsAtNoValue (f a)) : s.StopsAtNoValue (r >>= f) := by
  cases r with
  | ok a => exact hf a rfl
  | error e => exact fun e' he' => hr e' (by cases he'; rfl)

/-- A sequence whose second part always answers stops as the first does. -/
theorem stopsAtNoValue_bind_ok {α β : Type} {r : Except Stop α} (f : α → β) (hr : s.StopsAtNoValue r) :
    s.StopsAtNoValue (r >>= fun a => .ok (f a)) :=
  stopsAtNoValue_bind hr fun _ _ => stopsAtNoValue_ok _

/-- A byte is read from its address or not at all; a device always answers. -/
theorem stopsAtNoValue_read8 (x : Word) : s.StopsAtNoValue (s.read8 x) := by
  intro e he
  obtain ⟨rfl, habsent | ⟨hram | hrom, hnone⟩⟩ := read8_eq_error.1 he
  · exact ⟨x, rfl, by simp [habsent], .inr habsent⟩
  · exact ⟨x, rfl, by simp [hram], .inl hnone⟩
  · exact ⟨x, rfl, by simp [hrom], .inl hnone⟩

/-- A byte read after accesses that touched the devices alone. -/
theorem stopsAtNoValue_read8_of_same (x : Word) (hm : t.mem = s.mem) (hp : t.params = s.params) :
    s.StopsAtNoValue (t.read8 x) :=
  (stopsAtNoValue_read8 x).mono fun _ h => h.of_same hm hp

theorem stopsAtNoValue_read16 (x : Word) : s.StopsAtNoValue (s.read16 x) :=
  stopsAtNoValue_bind (stopsAtNoValue_read8 x) fun _ _ =>
    stopsAtNoValue_bind_ok _ (stopsAtNoValue_read8_of_same (x + 1) rfl rfl)

theorem stopsAtNoValue_readNth (x : Word) (k : Nat) : s.StopsAtNoValue (s.readNth x k) :=
  stopsAtNoValue_read8_of_same _ (s.afterReads_mem x k) (s.afterReads_params x k)

theorem stopsAtNoValue_opnd8 (src : Src8) : s.StopsAtNoValue (s.opnd8 src) := by
  cases src with
  | imm ii => exact stopsAtNoValue_ok ii
  | mem m => exact stopsAtNoValue_read8 (s.ea m)

theorem stopsAtNoValue_opnd16 (src : Src16) : s.StopsAtNoValue (s.opnd16 src) := by
  cases src with
  | imm jk => exact stopsAtNoValue_ok jk
  | mem m => exact stopsAtNoValue_read16 (s.ea m)

theorem stopsAtNoValue_pull8 : s.StopsAtNoValue s.pull8 := stopsAtNoValue_bind_ok _ (stopsAtNoValue_read8 (s.sp + 1))

theorem stopsAtNoValue_pull16 : s.StopsAtNoValue s.pull16 := by
  refine stopsAtNoValue_bind stopsAtNoValue_pull8 fun p hp => stopsAtNoValue_bind_ok _ ?_
  obtain ⟨v, _, rfl⟩ := pull8_eq_ok.1 hp
  exact stopsAtNoValue_pull8.mono fun _ h => h.of_same rfl rfl

/-- Entering a handler stops at its vector alone. -/
theorem stopsAtNoValue_enterHandler (src : Config.Source) : s.StopsAtNoValue (s.enterHandler src) :=
  stopsAtNoValue_bind_ok _ (stopsAtNoValue_read16 _)

/-- An entry stops at its vector alone, which held no value before the frame was stacked either. -/
theorem stopsAtNoValue_takeException (src : Config.Source) : s.StopsAtNoValue (s.takeException src) := by
  rw [takeException_eq]
  exact (stopsAtNoValue_enterHandler src).mono fun _ h => h.of_framed

/-- A return from an exception stops at one of the nine bytes of the frame. -/
theorem stopsAtNoValue_returnFromInterrupt : s.StopsAtNoValue s.returnFromInterrupt := by
  rw [returnFromInterrupt_eq]
  iterate 8 refine stopsAtNoValue_bind (stopsAtNoValue_readNth _ _) fun _ _ => ?_
  exact stopsAtNoValue_bind_ok _ (stopsAtNoValue_readNth _ _)

/-! ### Shapes of instructions -/

theorem stopsAtNoValue_accOp (r : Acc) (op : Byte → Byte → CCR → Byte × CCR) (src : Src8) :
    s.StopsAtNoValue (s.accOp r op src) := stopsAtNoValue_bind_ok _ (stopsAtNoValue_opnd8 src)

theorem stopsAtNoValue_accTest (r : Acc) (op : Byte → Byte → CCR → CCR) (src : Src8) :
    s.StopsAtNoValue (s.accTest r op src) := stopsAtNoValue_bind_ok _ (stopsAtNoValue_opnd8 src)

theorem stopsAtNoValue_loadAcc (r : Acc) (src : Src8) : s.StopsAtNoValue (s.loadAcc r src) :=
  stopsAtNoValue_bind_ok _ (stopsAtNoValue_opnd8 src)

theorem stopsAtNoValue_regOp (r : Reg16) (op : Word → Word → CCR → Word × CCR) (src : Src16) :
    s.StopsAtNoValue (s.regOp r op src) := stopsAtNoValue_bind_ok _ (stopsAtNoValue_opnd16 src)

theorem stopsAtNoValue_regTest (r : Reg16) (op : Word → Word → CCR → CCR) (src : Src16) :
    s.StopsAtNoValue (s.regTest r op src) := stopsAtNoValue_bind_ok _ (stopsAtNoValue_opnd16 src)

theorem stopsAtNoValue_loadReg (r : Reg16) (src : Src16) : s.StopsAtNoValue (s.loadReg r src) :=
  stopsAtNoValue_bind_ok _ (stopsAtNoValue_opnd16 src)

/-- A read-modify-write stops at its read alone. -/
theorem stopsAtNoValue_memUnary (op : Byte → CCR → Byte × CCR) (m : Addr) : s.StopsAtNoValue (s.memUnary op m) := by
  simp only [State.memUnary, write8_ok, ok_bind]
  exact stopsAtNoValue_bind_ok _ (stopsAtNoValue_read8 (s.ea m))

theorem stopsAtNoValue_storeAcc (r : Acc) (m : Addr) : s.StopsAtNoValue (s.storeAcc r m) :=
  storeAcc_ok r m ▸ stopsAtNoValue_ok _

theorem stopsAtNoValue_storeReg (r : Reg16) (m : Addr) : s.StopsAtNoValue (s.storeReg r m) :=
  storeReg_ok r m ▸ stopsAtNoValue_ok _

theorem stopsAtNoValue_callTo (target : Word) : s.StopsAtNoValue (s.callTo target) :=
  callTo_ok target ▸ stopsAtNoValue_ok _

theorem stopsAtNoValue_push8 (v : Byte) : s.StopsAtNoValue (s.push8 v) := push8_ok s v ▸ stopsAtNoValue_ok _

theorem stopsAtNoValue_push16 (v : Word) : s.StopsAtNoValue (s.push16 v) := push16_ok s v ▸ stopsAtNoValue_ok _

/-! ### Outcomes -/

/-- The outcome is a next state, or the fault of reading an address without a value. -/
def State.FaultsAtNoValue (s : State) (o : Host.Outcome State Fault Refusal) : Prop :=
  (∀ f, o = .fault f → ∃ x, f = .unwrittenRead x ∧ s.NoValueAt x) ∧ ∀ r, o ≠ .refused r

theorem faultsAtNoValue_next (t : State) : s.FaultsAtNoValue (.next t) := ⟨nofun, nofun⟩

/-- The step of an operation that stops at an address without a value alone. -/
theorem State.StopsAtNoValue.finish {r : Except Stop State} (h : s.StopsAtNoValue r) :
    s.FaultsAtNoValue (Machine.finish r) := by
  cases r with
  | ok t => exact faultsAtNoValue_next t
  | error e =>
    obtain ⟨x, rfl, hx⟩ := h e rfl
    exact ⟨fun f hf => ⟨x, by cases hf; rfl, hx⟩, nofun⟩

/-- Every instruction but TEST and DAA stops on an address without a value alone. -/
theorem exec_faultsAtNoValue (i : Instr) (htest : i ≠ .test) (hdaa : i ≠ .daa) : s.FaultsAtNoValue (exec i s) := by
  cases i with
  | test => exact absurd rfl htest
  | daa => exact absurd rfl hdaa
  | ldaa src | ldab src => exact (stopsAtNoValue_loadAcc _ src).finish
  | ldd src | lds src | ldx src | ldy src => exact (stopsAtNoValue_loadReg _ src).finish
  | staa m | stab m => exact (stopsAtNoValue_storeAcc _ m).finish
  | std m | sts m | stx m | sty m => exact (stopsAtNoValue_storeReg _ m).finish
  | adca src | adcb src | adda src | addb src | sbca src | sbcb src | suba src | subb src
  | anda src | andb src | eora src | eorb src | oraa src | orab src =>
    exact (stopsAtNoValue_accOp _ _ src).finish
  | cmpa src | cmpb src | bita src | bitb src => exact (stopsAtNoValue_accTest _ _ src).finish
  | addd src | subd src => exact (stopsAtNoValue_regOp _ _ src).finish
  | cpd src | cpx src | cpy src => exact (stopsAtNoValue_regTest _ _ src).finish
  | neg m | inc m | dec m | com m | bclr m | bset m | asl m | asr m | lsl m | lsr m | rol m | ror m =>
    exact (stopsAtNoValue_memUnary _ m).finish
  | tst m | brclr m | brset m => exact (stopsAtNoValue_bind_ok _ (stopsAtNoValue_read8 (s.ea m))).finish
  | clr m =>
    refine State.StopsAtNoValue.finish ?_
    simp only [discardRead8_ok, write8_ok, ok_bind]
    exact stopsAtNoValue_ok _
  | psha | pshb => exact (stopsAtNoValue_push8 _).finish
  | pshx | pshy => exact (stopsAtNoValue_push16 _).finish
  | pula | pulb => exact (stopsAtNoValue_bind_ok _ stopsAtNoValue_pull8).finish
  | pulx | puly | rts => exact (stopsAtNoValue_bind_ok _ stopsAtNoValue_pull16).finish
  | jsr m => exact (stopsAtNoValue_callTo (s.ea m)).finish
  | bsr rr => exact (stopsAtNoValue_callTo (s.relTarget rr)).finish
  | swi => exact (stopsAtNoValue_takeException .swi).finish
  | rti => exact stopsAtNoValue_returnFromInterrupt.finish
  | wai => exact (stopsAtNoValue_bind_ok _ (pushFrame_ok s ▸ stopsAtNoValue_ok _)).finish
  | tab | tba | tsx | tsy | txs | tys | xgdx | xgdy | clra | clrb | des | ins | aba | abx | aby | sba | cba | nega
  | negb | inca | incb | deca | decb | inx | iny | dex | dey | tsta | tstb | mul | idiv | fdiv | coma | comb | asla
  | aslb | asld | asra | asrb | lsla | lslb | lsld | lsra | lsrb | lsrd | rola | rolb | rora | rorb | bcc | bcs | beq
  | bge | bgt | bhi | bhs | ble | blo | bls | blt | bmi | bne | bpl | bra | brn | bvc | bvs | jmp | clc | cli | clv
  | sec | sei | sev | tap | tpa | nop | stop =>
    exact faultsAtNoValue_next _

/-- TEST runs in the test modes and is refused outside them (48_ccr_system.md R414). -/
theorem exec_test (s : State) :
    exec .test s = if s.params.testMode then .next (s.setRunState .testing) else .refused .testOutsideTestModes := by
  simp only [exec, execTest]
  cases s.params.testMode <;> rfl

/-- DAA is refused outside a restricted domain, and else adjusts (42_arithmetic.md R287). -/
theorem exec_daa (s : State) :
    exec .daa s = if s.params.daaDomain = .refuse ∧ daaInDomain s.a s.ccr = false then .refused .daaOutsideDomain
      else .next (((s.setA (daa8 s.a s.drawnBit s.ccr).1).setCcr (daa8 s.a s.drawnBit s.ccr).2).afterDraw) := by
  simp only [exec, execDaa]
  cases s.params.daaDomain <;> cases daaInDomain s.a s.ccr <;> rfl

/-- Settles O26: TEST and DAA never fault and are refused as their parameters say; every other instruction stops at an
address without a value alone. -/
theorem onlyTheseStops : Obligations.OnlyTheseStops := by
  intro i s
  by_cases htest : i = .test
  · subst htest
    rw [exec_test]
    split
    · exact ⟨nofun, nofun⟩
    · next hmode => exact ⟨nofun, fun r hr => .inl ⟨rfl, by simpa using hmode, by cases hr; rfl⟩⟩
  by_cases hdaa : i = .daa
  · subst hdaa
    rw [exec_daa]
    split
    · next hdom => exact ⟨nofun, fun r hr => .inr ⟨rfl, hdom.1, by cases hr; rfl⟩⟩
    · exact ⟨nofun, nofun⟩
  obtain ⟨hfault, hrefused⟩ := exec_faultsAtNoValue (s := s) i htest hdaa
  exact ⟨hfault, fun r hr => absurd hr (hrefused r)⟩

end Sys2Proof.Machine
end

section
/-! PROOF. Frame: what an instruction may change, said once for every instruction: the flags that its row of the condition
code matrix allows (10_state.md R50), the registers and control fields that its rule names, the addresses it stores to. -/

namespace Sys2Proof.Machine

variable {s t u : State} {i : Instr}

/-! ### The rows of the condition code matrix that the flag functions obey, each by an instruction that has the row -/

theorem allow_kept (f : CCR) : Instr.nop.cells.Allow f f := ⟨rfl, rfl, rfl, rfl, rfl, rfl, rfl, rfl⟩

theorem allow_logic8 (r : Byte) (f : CCR) : Instr.tab.cells.Allow f (logic8 r f) :=
  ⟨rfl, rfl, rfl, rfl, trivial, trivial, rfl, rfl⟩

theorem allow_logic16 (r : Word) (f : CCR) : Instr.tab.cells.Allow f (logic16 r f) :=
  ⟨rfl, rfl, rfl, rfl, trivial, trivial, rfl, rfl⟩

theorem allow_clr8 (x : Byte) (f : CCR) : Instr.clra.cells.Allow f (clr8 x f).2 :=
  ⟨rfl, rfl, rfl, rfl, rfl, rfl, rfl, rfl⟩

theorem allow_add8 (a m : Byte) (c : Bool) (f : CCR) : Instr.aba.cells.Allow f (add8 a m c f).2 :=
  ⟨rfl, rfl, trivial, rfl, trivial, trivial, trivial, trivial⟩

theorem allow_sub8 (a m : Byte) (c : Bool) (f : CCR) : Instr.sba.cells.Allow f (sub8 a m c f).2 :=
  ⟨rfl, rfl, rfl, rfl, trivial, trivial, trivial, trivial⟩

theorem allow_add16 (a m : Word) (f : CCR) : Instr.sba.cells.Allow f (add16 a m f).2 :=
  ⟨rfl, rfl, rfl, rfl, trivial, trivial, trivial, trivial⟩

theorem allow_sub16 (a m : Word) (f : CCR) : Instr.sba.cells.Allow f (sub16 a m f).2 :=
  ⟨rfl, rfl, rfl, rfl, trivial, trivial, trivial, trivial⟩

theorem allow_neg8 (x : Byte) (f : CCR) : Instr.nega.cells.Allow f (neg8 x f).2 :=
  ⟨rfl, rfl, rfl, rfl, trivial, trivial, trivial, trivial⟩

theorem allow_inc8 (x : Byte) (f : CCR) : Instr.inca.cells.Allow f (inc8 x f).2 :=
  ⟨rfl, rfl, rfl, rfl, trivial, trivial, trivial, rfl⟩

theorem allow_dec8 (x : Byte) (f : CCR) : Instr.deca.cells.Allow f (dec8 x f).2 :=
  ⟨rfl, rfl, rfl, rfl, trivial, trivial, trivial, rfl⟩

theorem allow_indexFlags (r : Word) (f : CCR) : Instr.inx.cells.Allow f (indexFlags r f) :=
  ⟨rfl, rfl, rfl, rfl, rfl, trivial, rfl, rfl⟩

theorem allow_tst8 (x : Byte) (f : CCR) : Instr.tsta.cells.Allow f (tst8 x f) :=
  ⟨rfl, rfl, rfl, rfl, trivial, trivial, rfl, rfl⟩

theorem allow_daa8 (x : Byte) (v : Bool) (f : CCR) : Instr.daa.cells.Allow f (daa8 x v f).2 :=
  ⟨rfl, rfl, rfl, rfl, trivial, trivial, trivial, trivial⟩

theorem allow_com8 (x : Byte) (f : CCR) : Instr.coma.cells.Allow f (com8 x f).2 :=
  ⟨rfl, rfl, rfl, rfl, trivial, trivial, rfl, rfl⟩

theorem allow_shiftFlags8 (r : Byte) (c : Bool) (f : CCR) : Instr.asla.cells.Allow f (shiftFlags8 r c f) :=
  ⟨rfl, rfl, rfl, rfl, trivial, trivial, trivial, trivial⟩

theorem allow_shiftFlags16 (r : Word) (c : Bool) (f : CCR) : Instr.asld.cells.Allow f (shiftFlags16 r c f) :=
  ⟨rfl, rfl, rfl, rfl, trivial, trivial, trivial, trivial⟩

/-- LSRD clears N: 0 enters bit 15. -/
theorem allow_lsr16 (x : Word) (f : CCR) : Instr.lsrd.cells.Allow f (lsr16 x f).2 :=
  have hn : (x >>> 1).msb = false := by simp [BitVec.msb_eq_getLsbD_last]
  ⟨rfl, rfl, rfl, rfl, hn, trivial, trivial, trivial⟩

/-- Loading the register from a byte leaves X no higher. -/
theorem allow_load (f : CCR) (v : Byte) : Instr.tap.cells.Allow f (f.load v) :=
  ⟨trivial, Bool.and_elim_left, trivial, trivial, trivial, trivial, trivial, trivial⟩

/-! ### What an instruction leaves unchanged: a relation that an update keeps when the instruction's tables allow it -/

/-- Nothing but CCR changes outside the registers that the instruction writes, the control fields that it names, and what
accesses that store to its addresses touch. -/
structure State.Frame (i : Instr) (s t : State) : Prop where
  a : .a ∉ i.writes → t.a = s.a
  b : .b ∉ i.writes → t.b = s.b
  ix : .ix ∉ i.writes → t.ix = s.ix
  iy : .iy ∉ i.writes → t.iy = s.iy
  sp : .sp ∉ i.writes → t.sp = s.sp
  pc : i.writesPc = false → t.pc = s.pc
  runState : i ∉ [.wai, .stop, .test, .swi] → t.runState = s.runState
  iDelay : i ∉ [.cli, .tap, .swi] → t.iDelay = s.iDelay
  draws : i ∉ [.daa, .idiv, .fdiv] → t.draws = s.draws
  pending : t.pending = s.pending
  inputs : t.inputs = s.inputs
  params : t.params = s.params
  accessed : s.Accessed t (storedAddresses s i)

/-- Accesses that store to the instruction's addresses at most touch memory and the devices alone. -/
theorem frame_touched (h : s.Accessed u (storedAddresses s i)) :
    State.Frame i s ((s.setMem u.mem).setDeviceLog u.deviceLog) where
  a _ := rfl
  b _ := rfl
  ix _ := rfl
  iy _ := rfl
  sp _ := rfl
  pc _ := rfl
  runState _ := rfl
  iDelay _ := rfl
  draws _ := rfl
  pending := rfl
  inputs := rfl
  params := rfl
  accessed := h.congr rfl rfl

theorem frame_refl (i : Instr) (s : State) : State.Frame i s s := frame_touched (.refl s _)

theorem frame_afterRead (i : Instr) (s : State) (x : Word) : State.Frame i s (s.afterRead x) :=
  frame_touched (accessed_afterRead s x _)

theorem frame_afterRead16 (i : Instr) (s : State) (x : Word) : State.Frame i s (s.afterRead16 x) :=
  frame_touched (accessed_afterRead16 s x _)

theorem frame_afterOpnd8 (i : Instr) (s : State) (src : Src8) : State.Frame i s (s.afterOpnd8 src) := by
  cases src with
  | imm ii => exact frame_refl i s
  | mem m => exact frame_afterRead i s (s.ea m)

theorem frame_afterOpnd16 (i : Instr) (s : State) (src : Src16) : State.Frame i s (s.afterOpnd16 src) := by
  cases src with
  | imm jk => exact frame_refl i s
  | mem m => exact frame_afterRead16 i s (s.ea m)

theorem frame_stored {a : Word} (v : Byte) (h : storedAddresses s i = [a]) : State.Frame i s (s.stored a v) := by
  rw [stored_eq]
  exact frame_touched (h ▸ accessed_stored s a v)

/-- A byte is read and stored at one address (20_memory.md R88). -/
theorem frame_readModifyWrite {a : Word} (v : Byte) (h : storedAddresses s i = [a]) :
    State.Frame i s ((s.afterRead a).stored a v) := by
  rw [stored_eq]
  exact frame_touched (h ▸ (accessed_memUnary a v s.ccr).congr rfl rfl)

theorem frame_stored16 {a : Word} (v : Word) (h : storedAddresses s i = [a, a + 1]) :
    State.Frame i s (s.stored16 a v) := by
  rw [stored16_eq]
  exact frame_touched (h ▸ accessed_stored16 s a v)

/-! ### One rule for each update: it keeps the frame when the instruction may write the field -/

theorem frame_setA (h : State.Frame i s u) (v : Byte) (hw : .a ∈ i.writes) : State.Frame i s (u.setA v) :=
  { h with a := absurd hw, accessed := h.accessed.congr rfl rfl }

theorem frame_setB (h : State.Frame i s u) (v : Byte) (hw : .b ∈ i.writes) : State.Frame i s (u.setB v) :=
  { h with b := absurd hw, accessed := h.accessed.congr rfl rfl }

theorem frame_setIx (h : State.Frame i s u) (v : Word) (hw : .ix ∈ i.writes) : State.Frame i s (u.setIx v) :=
  { h with ix := absurd hw, accessed := h.accessed.congr rfl rfl }

theorem frame_setIy (h : State.Frame i s u) (v : Word) (hw : .iy ∈ i.writes) : State.Frame i s (u.setIy v) :=
  { h with iy := absurd hw, accessed := h.accessed.congr rfl rfl }

theorem frame_setSp (h : State.Frame i s u) (v : Word) (hw : .sp ∈ i.writes) : State.Frame i s (u.setSp v) :=
  { h with sp := absurd hw, accessed := h.accessed.congr rfl rfl }

theorem frame_setPc (h : State.Frame i s u) (v : Word) (hw : i.writesPc = true) : State.Frame i s (u.setPc v) :=
  { h with pc := fun hn => absurd (hn.symm.trans hw) Bool.false_ne_true, accessed := h.accessed.congr rfl rfl }

theorem frame_setCcr (h : State.Frame i s u) (f : CCR) : State.Frame i s (u.setCcr f) :=
  { h with accessed := h.accessed.congr rfl rfl }

theorem frame_setRunState (h : State.Frame i s u) (v : RunState) (hw : i ∈ [.wai, .stop, .test, .swi]) :
    State.Frame i s (u.setRunState v) :=
  { h with runState := absurd hw, accessed := h.accessed.congr rfl rfl }

theorem frame_setIDelay (h : State.Frame i s u) (v : Bool) (hw : i ∈ [.cli, .tap, .swi]) :
    State.Frame i s (u.setIDelay v) :=
  { h with iDelay := absurd hw, accessed := h.accessed.congr rfl rfl }

theorem frame_afterDraw (h : State.Frame i s u) (hw : i ∈ [.daa, .idiv, .fdiv]) : State.Frame i s u.afterDraw :=
  { h with draws := absurd hw, accessed := h.accessed.congr rfl rfl }

/-- The register that an accumulator is. -/
def Acc.reg : Acc → Reg
  | .a => .a
  | .b => .b

/-- The registers that a 16-bit register is made of (10_state.md R23). -/
def Reg16.regs : Reg16 → List Reg
  | .d => [.a, .b]
  | .ix => [.ix]
  | .iy => [.iy]
  | .sp => [.sp]

theorem frame_setAcc (h : State.Frame i s u) {r : Acc} (v : Byte) (hw : r.reg ∈ i.writes) :
    State.Frame i s (u.setAcc r v) := by
  cases r with
  | a => exact frame_setA h v hw
  | b => exact frame_setB h v hw

theorem frame_setD (h : State.Frame i s u) (v : Word) (hw : Reg16.regs .d ⊆ i.writes) : State.Frame i s (u.setD v) :=
  frame_setB (frame_setA h _ (hw (by simp [Reg16.regs]))) _ (hw (by simp [Reg16.regs]))

theorem frame_setReg16 (h : State.Frame i s u) {r : Reg16} (v : Word) (hw : r.regs ⊆ i.writes) :
    State.Frame i s (u.setReg16 r v) := by
  cases r with
  | d => exact frame_setD h v hw
  | ix => exact frame_setIx h v (hw (by simp [Reg16.regs]))
  | iy => exact frame_setIy h v (hw (by simp [Reg16.regs]))
  | sp => exact frame_setSp h v (hw (by simp [Reg16.regs]))

theorem frame_branchIf (h : State.Frame i s u) (c : Bool) (rr : Byte) (hw : i.writesPc = true) :
    State.Frame i s (u.branchIf c rr) := by
  rw [branchIf_eq]
  exact frame_setPc h _ hw

/-! ### The stack and the exceptions -/

theorem frame_pushed16 (v : Word) (hs : storedAddresses s i = [s.sp, s.sp - 1]) (hw : .sp ∈ i.writes) :
    State.Frame i s (s.pushed16 v) := by
  rw [pushed16_eq]
  exact frame_setSp (frame_touched (hs ▸ accessed_pushed16 s v)) _ hw

theorem frame_framed (hs : storedAddresses s i = s.frameAddresses) (hw : .sp ∈ i.writes) : State.Frame i s s.framed := by
  rw [framed_eq]
  exact frame_setSp (frame_touched (hs ▸ accessed_framed s)) _ hw

theorem frame_pull8 {p : Byte × State} (h : s.pull8 = .ok p) (hw : .sp ∈ i.writes) : State.Frame i s p.2 := by
  obtain ⟨v, _, rfl⟩ := pull8_eq_ok.1 h
  exact frame_setSp (frame_afterRead i s _) _ hw

theorem frame_pull16 {p : Word × State} (h : s.pull16 = .ok p) (hw : .sp ∈ i.writes) : State.Frame i s p.2 := by
  obtain ⟨v, _, rfl⟩ := pull16_eq_ok.1 h
  exact frame_setSp (frame_afterRead16 i s _) _ hw

theorem pull8_ccr {p : Byte × State} (h : s.pull8 = .ok p) : p.2.ccr = s.ccr := by
  obtain ⟨v, _, rfl⟩ := pull8_eq_ok.1 h
  rfl

theorem pull16_ccr {p : Word × State} (h : s.pull16 = .ok p) : p.2.ccr = s.ccr := by
  obtain ⟨v, _, rfl⟩ := pull16_eq_ok.1 h
  rfl

/-- A vector's read comes after the frame is stacked. -/
theorem frame_afterRead16_after (h : State.Frame i s u) (x : Word) : State.Frame i s (u.afterRead16 x) :=
  { h with
    accessed := List.append_nil (storedAddresses s i) ▸ h.accessed.trans (accessed_afterRead16 u x []) h.params }

/-! ### What an instruction obeys: its row of the matrix and its frame, shape by shape -/

/-- The flags obey the instruction's row of the condition code matrix, and the rest its frame. -/
structure State.Follows (i : Instr) (s t : State) : Prop where
  flags : i.cells.Allow s.ccr t.ccr
  frame : State.Frame i s t

theorem follows_setCcr (h : State.Frame i s u) {f : CCR} (hf : i.cells.Allow s.ccr f) : State.Follows i s (u.setCcr f) :=
  ⟨hf, frame_setCcr h f⟩

/-- An instruction whose row keeps every flag. -/
theorem follows_kept (h : State.Frame i s u) (hf : i.cells = Instr.nop.cells) (hu : u.ccr = s.ccr) :
    State.Follows i s u :=
  ⟨by rw [hf, hu]; exact allow_kept s.ccr, h⟩

/-- An instruction that takes a value, where it can be read, and then goes on. -/
theorem follows_bind {α : Type} {x : Except Stop α} {g : α → State} (h : (x >>= fun v => .ok (g v)) = .ok t)
    (hg : ∀ v, x = .ok v → State.Follows i s (g v)) : State.Follows i s t := by
  obtain ⟨v, hv, ht⟩ := bind_eq_ok.1 h
  cases ht
  exact hg v hv

theorem follows_accOp {r : Acc} {op : Byte → Byte → CCR → Byte × CCR} {src : Src8} (h : s.accOp r op src = .ok t)
    (hw : r.reg ∈ i.writes) (hf : ∀ m, i.cells.Allow s.ccr (op (s.acc r) m s.ccr).2) : State.Follows i s t := by
  obtain ⟨m, _, rfl⟩ := accOp_eq_ok.1 h
  exact follows_setCcr (frame_setAcc (frame_afterOpnd8 i s src) _ hw) (hf m)

theorem follows_accTest {r : Acc} {op : Byte → Byte → CCR → CCR} {src : Src8} (h : s.accTest r op src = .ok t)
    (hf : ∀ m, i.cells.Allow s.ccr (op (s.acc r) m s.ccr)) : State.Follows i s t := by
  obtain ⟨m, _, rfl⟩ := accTest_eq_ok.1 h
  exact follows_setCcr (frame_afterOpnd8 i s src) (hf m)

theorem follows_loadAcc {r : Acc} {src : Src8} (h : s.loadAcc r src = .ok t) (hw : r.reg ∈ i.writes)
    (hf : i.cells = Instr.tab.cells) : State.Follows i s t := by
  obtain ⟨m, _, rfl⟩ := loadAcc_eq_ok.1 h
  exact follows_setCcr (frame_setAcc (frame_afterOpnd8 i s src) _ hw) (hf ▸ allow_logic8 m s.ccr)

theorem follows_regOp {r : Reg16} {op : Word → Word → CCR → Word × CCR} {src : Src16} (h : s.regOp r op src = .ok t)
    (hw : r.regs ⊆ i.writes) (hf : ∀ m, i.cells.Allow s.ccr (op (s.reg16 r) m s.ccr).2) : State.Follows i s t := by
  obtain ⟨m, _, rfl⟩ := regOp_eq_ok.1 h
  exact follows_setCcr (frame_setReg16 (frame_afterOpnd16 i s src) _ hw) (hf m)

theorem follows_regTest {r : Reg16} {op : Word → Word → CCR → CCR} {src : Src16} (h : s.regTest r op src = .ok t)
    (hf : ∀ m, i.cells.Allow s.ccr (op (s.reg16 r) m s.ccr)) : State.Follows i s t := by
  obtain ⟨m, _, rfl⟩ := regTest_eq_ok.1 h
  exact follows_setCcr (frame_afterOpnd16 i s src) (hf m)

theorem follows_loadReg {r : Reg16} {src : Src16} (h : s.loadReg r src = .ok t) (hw : r.regs ⊆ i.writes)
    (hf : i.cells = Instr.tab.cells) : State.Follows i s t := by
  obtain ⟨v, _, rfl⟩ := loadReg_eq_ok.1 h
  exact follows_setCcr (frame_setReg16 (frame_afterOpnd16 i s src) _ hw) (hf ▸ allow_logic16 v s.ccr)

theorem follows_memUnary {op : Byte → CCR → Byte × CCR} {m : Addr} (h : s.memUnary op m = .ok t)
    (hs : storedAddresses s i = [s.ea m]) (hf : ∀ v, i.cells.Allow s.ccr (op v s.ccr).2) : State.Follows i s t := by
  obtain ⟨v, _, rfl⟩ := memUnary_eq_ok.1 h
  exact follows_setCcr (frame_readModifyWrite _ hs) (hf v)

theorem follows_storeAcc {r : Acc} {m : Addr} (h : s.storeAcc r m = .ok t) (hs : storedAddresses s i = [s.ea m])
    (hf : i.cells = Instr.tab.cells) : State.Follows i s t := by
  cases (storeAcc_ok r m).symm.trans h
  exact follows_setCcr (frame_stored _ hs) (hf ▸ allow_logic8 _ s.ccr)

theorem follows_storeReg {r : Reg16} {m : Addr} (h : s.storeReg r m = .ok t)
    (hs : storedAddresses s i = [s.ea m, s.ea m + 1]) (hf : i.cells = Instr.tab.cells) : State.Follows i s t := by
  cases (storeReg_ok r m).symm.trans h
  exact follows_setCcr (frame_stored16 _ hs) (hf ▸ allow_logic16 _ s.ccr)

theorem follows_accUnary {r : Acc} {op : Byte → CCR → Byte × CCR} (hw : r.reg ∈ i.writes)
    (hf : ∀ v, i.cells.Allow s.ccr (op v s.ccr).2) : State.Follows i s (s.accUnary r op) :=
  follows_setCcr (frame_setAcc (frame_refl i s) _ hw) (hf _)

theorem follows_dUnary {op : Word → CCR → Word × CCR} (hw : Reg16.regs .d ⊆ i.writes)
    (hf : ∀ v, i.cells.Allow s.ccr (op v s.ccr).2) : State.Follows i s (s.dUnary op) :=
  follows_setCcr (frame_setD (frame_refl i s) _ hw) (hf _)

theorem follows_stepIndex {r : Reg16} {delta : Word} (hw : r.regs ⊆ i.writes) (hf : i.cells = Instr.inx.cells) :
    State.Follows i s (s.stepIndex r delta) :=
  follows_setCcr (frame_setReg16 (frame_refl i s) _ hw) (hf ▸ allow_indexFlags _ s.ccr)

theorem follows_exchangeD {r : Reg16} (hd : Reg16.regs .d ⊆ i.writes) (hw : r.regs ⊆ i.writes)
    (hf : i.cells = Instr.nop.cells) : State.Follows i s (s.exchangeD r) :=
  follows_kept (frame_setD (frame_setReg16 (frame_refl i s) _ hw) _ hd) hf (State.setReg16_ccr s r s.d)

theorem follows_branchIf (c : Bool) (rr : Byte) (hw : i.writesPc = true) (hf : i.cells = Instr.nop.cells) :
    State.Follows i s (s.branchIf c rr) :=
  follows_kept (frame_branchIf (frame_refl i s) c rr hw) hf (branchIf_ccr c rr)

theorem follows_callTo {target : Word} (h : s.callTo target = .ok t) (hs : storedAddresses s i = [s.sp, s.sp - 1])
    (hw : .sp ∈ i.writes) (hpc : i.writesPc = true) (hf : i.cells = Instr.nop.cells) : State.Follows i s t := by
  cases (callTo_ok target).symm.trans h
  exact follows_kept (frame_setPc (frame_pushed16 s.pc hs hw) target hpc) hf (by simp [State.pushed16])

theorem follows_push8 {v : Byte} (h : s.push8 v = .ok t) (hs : storedAddresses s i = [s.sp]) (hw : .sp ∈ i.writes)
    (hf : i.cells = Instr.nop.cells) : State.Follows i s t := by
  cases (push8_ok s v).symm.trans h
  exact follows_kept (frame_setSp (frame_stored v hs) _ hw) hf (stored_ccr s s.sp v)

theorem follows_push16 {v : Word} (h : s.push16 v = .ok t) (hs : storedAddresses s i = [s.sp, s.sp - 1])
    (hw : .sp ∈ i.writes) (hf : i.cells = Instr.nop.cells) : State.Follows i s t := by
  cases (push16_ok s v).symm.trans h
  exact follows_kept (frame_pushed16 v hs hw) hf (by simp [State.pushed16])

/-- A division writes D and an index register. -/
theorem frame_divided (q r : Word) (f : CCR) (hw : i.writes = [.a, .b, .ix]) :
    State.Frame i s (((s.setIx q).setD r).setCcr f) :=
  frame_setCcr (frame_setD (frame_setIx (frame_refl i s) q (by simp [hw])) r (by simp [hw, Reg16.regs])) f

/-- WAI stacks the frame and waits (48_ccr_system.md R412). -/
theorem exec_wai (s : State) : exec .wai s = .next (s.framed.setRunState .waiting) := by
  simp only [exec, execWai, pushFrame_ok, ok_bind, finish_ok]

/-- SWI stacks the frame, sets I, and leaves X: its source is not XIRQ. -/
theorem follows_swi (h : s.takeException .swi = .ok t) : State.Follows .swi s t := by
  obtain ⟨handler, _, rfl⟩ := takeException_eq_ok.1 h
  have hframe : State.Frame .swi s s.framed := frame_framed rfl (.head _)
  have hccr : (s.framed.handled .swi handler).ccr = { s.ccr with i := true } := by simp [State.handled]
  have hflags : Instr.swi.cells.Allow s.ccr (s.framed.handled .swi handler).ccr := by
    rw [hccr]
    exact ⟨rfl, rfl, rfl, rfl, rfl, rfl, rfl, rfl⟩
  refine ⟨hflags, ?_⟩
  exact frame_setRunState (frame_setIDelay (frame_setPc (frame_setCcr (frame_afterRead16_after hframe _) _) _ rfl) _
    (by simp)) _ (by simp)

/-- RTI writes every register from the frame, and loads the flags. -/
theorem follows_rti (h : s.returnFromInterrupt = .ok t) : State.Follows .rti s t := by
  obtain ⟨l, f, a, b, ix, iy, pc, rfl, hacc⟩ := returnFromInterrupt_spec h
  have hreads : State.Frame .rti s (s.setDeviceLog l) := frame_touched (u := s.setDeviceLog l) (hacc.congr rfl rfl)
  refine ⟨allow_load s.ccr f, frame_setPc (frame_setIy (frame_setIx (frame_setA (frame_setB (frame_setCcr
    (frame_setSp hreads _ ?_) _) _ ?_) _ ?_) _ ?_) _ ?_) _ rfl⟩
  all_goals simp [Instr.writes]

/-- Every instruction that answers a next state obeys its row of the matrix and its frame. -/
theorem exec_follows (h : exec i s = .next t) : State.Follows i s t := by
  cases i with
  | ldaa src | ldab src => exact follows_loadAcc (finish_eq_next.1 h) (.head _) rfl
  | ldd src | lds src | ldx src | ldy src => exact follows_loadReg (finish_eq_next.1 h) (List.Subset.refl _) rfl
  | staa m | stab m => exact follows_storeAcc (finish_eq_next.1 h) rfl rfl
  | std m | sts m | stx m | sty m => exact follows_storeReg (finish_eq_next.1 h) rfl rfl
  | adca src | adcb src | adda src | addb src =>
    exact follows_accOp (finish_eq_next.1 h) (.head _) fun _ => allow_add8 _ _ _ _
  | sbca src | sbcb src | suba src | subb src =>
    exact follows_accOp (finish_eq_next.1 h) (.head _) fun _ => allow_sub8 _ _ _ _
  | anda src | andb src | eora src | eorb src | oraa src | orab src =>
    exact follows_accOp (finish_eq_next.1 h) (.head _) fun _ => allow_logic8 _ _
  | cmpa src | cmpb src => exact follows_accTest (finish_eq_next.1 h) fun _ => allow_sub8 _ _ _ _
  | bita src | bitb src => exact follows_accTest (finish_eq_next.1 h) fun _ => allow_logic8 _ _
  | addd src => exact follows_regOp (finish_eq_next.1 h) (List.Subset.refl _) fun _ => allow_add16 _ _ _
  | subd src => exact follows_regOp (finish_eq_next.1 h) (List.Subset.refl _) fun _ => allow_sub16 _ _ _
  | cpd src | cpx src | cpy src => exact follows_regTest (finish_eq_next.1 h) fun _ => allow_sub16 _ _ _
  | neg m => exact follows_memUnary (finish_eq_next.1 h) rfl fun _ => allow_neg8 _ _
  | inc m => exact follows_memUnary (finish_eq_next.1 h) rfl fun _ => allow_inc8 _ _
  | dec m => exact follows_memUnary (finish_eq_next.1 h) rfl fun _ => allow_dec8 _ _
  | com m => exact follows_memUnary (finish_eq_next.1 h) rfl fun _ => allow_com8 _ _
  | bclr m mm | bset m mm => exact follows_memUnary (finish_eq_next.1 h) rfl fun _ => allow_logic8 _ _
  | asl m | lsl m | asr m | lsr m | rol m | ror m =>
    exact follows_memUnary (finish_eq_next.1 h) rfl fun _ => allow_shiftFlags8 _ _ _
  | clr m =>
    simp only [exec, execClr, discardRead8_ok, write8_ok, ok_bind, finish_ok, Host.Outcome.next.injEq] at h
    exact h ▸ follows_setCcr (frame_readModifyWrite _ rfl) (allow_clr8 0 s.ccr)
  | tst m =>
    exact follows_bind (finish_eq_next.1 h) fun v _ => follows_setCcr (frame_afterRead _ s _) (allow_tst8 v s.ccr)
  | nega | negb => cases h; exact follows_accUnary (.head _) fun _ => allow_neg8 _ _
  | inca | incb => cases h; exact follows_accUnary (.head _) fun _ => allow_inc8 _ _
  | deca | decb => cases h; exact follows_accUnary (.head _) fun _ => allow_dec8 _ _
  | coma | comb => cases h; exact follows_accUnary (.head _) fun _ => allow_com8 _ _
  | clra | clrb => cases h; exact follows_accUnary (.head _) fun _ => allow_clr8 _ _
  | asla | aslb | lsla | lslb | asra | asrb | lsra | lsrb | rola | rolb | rora | rorb =>
    cases h; exact follows_accUnary (.head _) fun _ => allow_shiftFlags8 _ _ _
  | asld | lsld => cases h; exact follows_dUnary (List.Subset.refl _) fun _ => allow_shiftFlags16 _ _ _
  | lsrd => cases h; exact follows_dUnary (List.Subset.refl _) fun _ => allow_lsr16 _ _
  | tsta | tstb => cases h; exact follows_setCcr (frame_refl _ s) (allow_tst8 _ s.ccr)
  | inx | iny | dex | dey => cases h; exact follows_stepIndex (List.Subset.refl _) rfl
  | tab => cases h; exact follows_setCcr (frame_setB (frame_refl _ s) _ (.head _)) (allow_logic8 _ s.ccr)
  | tba => cases h; exact follows_setCcr (frame_setA (frame_refl _ s) _ (.head _)) (allow_logic8 _ s.ccr)
  | tsx | abx => cases h; exact follows_kept (frame_setIx (frame_refl _ s) _ (.head _)) rfl rfl
  | tsy | aby => cases h; exact follows_kept (frame_setIy (frame_refl _ s) _ (.head _)) rfl rfl
  | txs | tys | des | ins => cases h; exact follows_kept (frame_setSp (frame_refl _ s) _ (.head _)) rfl rfl
  | tpa => cases h; exact follows_kept (frame_setA (frame_refl _ s) _ (.head _)) rfl rfl
  | xgdx | xgdy =>
    cases h
    exact follows_exchangeD (by simp [Instr.writes, Reg16.regs]) (by simp [Instr.writes, Reg16.regs]) rfl
  | aba => cases h; exact follows_setCcr (frame_setA (frame_refl _ s) _ (.head _)) (allow_add8 _ _ _ s.ccr)
  | sba => cases h; exact follows_setCcr (frame_setA (frame_refl _ s) _ (.head _)) (allow_sub8 _ _ _ s.ccr)
  | cba => cases h; exact follows_setCcr (frame_refl _ s) (allow_sub8 _ _ _ s.ccr)
  | daa =>
    rw [exec_daa] at h
    split at h
    · cases h
    · cases h
      exact ⟨allow_daa8 _ _ s.ccr, frame_afterDraw (frame_setCcr (frame_setA (frame_refl _ s) _ (.head _)) _) (.head _)⟩
  | mul =>
    cases h
    exact follows_setCcr (frame_setD (frame_refl _ s) _ (List.Subset.refl _))
      ⟨rfl, rfl, rfl, rfl, rfl, rfl, rfl, trivial⟩
  | idiv =>
    cases h
    cases s.ix == 0 with
    | true =>
      exact ⟨⟨rfl, rfl, rfl, rfl, rfl, trivial, rfl, trivial⟩, frame_afterDraw (frame_divided _ _ _ rfl) (by simp)⟩
    | false => exact ⟨⟨rfl, rfl, rfl, rfl, rfl, trivial, rfl, trivial⟩, frame_divided _ _ _ rfl⟩
  | fdiv =>
    cases h
    cases decide (s.d.toNat < s.ix.toNat) with
    | true => exact ⟨⟨rfl, rfl, rfl, rfl, rfl, trivial, trivial, trivial⟩, frame_divided _ _ _ rfl⟩
    | false =>
      exact ⟨⟨rfl, rfl, rfl, rfl, rfl, trivial, trivial, trivial⟩, frame_afterDraw (frame_divided _ _ _ rfl) (by simp)⟩
  | psha | pshb => exact follows_push8 (finish_eq_next.1 h) rfl (.head _) rfl
  | pshx | pshy => exact follows_push16 (finish_eq_next.1 h) rfl (.head _) rfl
  | pula =>
    exact follows_bind (finish_eq_next.1 h) fun p hp =>
      follows_kept (frame_setA (frame_pull8 hp (by simp [Instr.writes])) _ (.head _)) rfl (pull8_ccr hp)
  | pulb =>
    exact follows_bind (finish_eq_next.1 h) fun p hp =>
      follows_kept (frame_setB (frame_pull8 hp (by simp [Instr.writes])) _ (.head _)) rfl (pull8_ccr hp)
  | pulx =>
    exact follows_bind (finish_eq_next.1 h) fun p hp =>
      follows_kept (frame_setIx (frame_pull16 hp (by simp [Instr.writes])) _ (.head _)) rfl (pull16_ccr hp)
  | puly =>
    exact follows_bind (finish_eq_next.1 h) fun p hp =>
      follows_kept (frame_setIy (frame_pull16 hp (by simp [Instr.writes])) _ (.head _)) rfl (pull16_ccr hp)
  | bcc rr | bcs rr | beq rr | bge rr | bgt rr | bhi rr | bhs rr | ble rr | blo rr | bls rr | blt rr | bmi rr | bne rr
  | bpl rr | bra rr | brn rr | bvc rr | bvs rr => cases h; exact follows_branchIf _ rr rfl rfl
  | brclr m mm rr | brset m mm rr =>
    exact follows_bind (finish_eq_next.1 h) fun v _ =>
      follows_kept (frame_branchIf (frame_afterRead _ s _) _ rr rfl) rfl (branchIf_ccr _ rr)
  | jmp m => cases h; exact follows_kept (frame_setPc (frame_refl _ s) _ rfl) rfl rfl
  | jsr m | bsr rr => exact follows_callTo (finish_eq_next.1 h) rfl (.head _) rfl rfl
  | rts =>
    exact follows_bind (finish_eq_next.1 h) fun p hp =>
      follows_kept (frame_setPc (frame_pull16 hp (.head _)) _ rfl) rfl (pull16_ccr hp)
  | clc | sec | sei | sev | clv =>
    cases h
    exact follows_setCcr (frame_refl _ s) ⟨rfl, rfl, rfl, rfl, rfl, rfl, rfl, rfl⟩
  | cli =>
    cases h
    exact follows_setCcr (frame_setIDelay (frame_refl _ s) _ (by simp)) ⟨rfl, rfl, rfl, rfl, rfl, rfl, rfl, rfl⟩
  | tap =>
    cases h
    exact follows_setCcr (frame_setIDelay (frame_refl _ s) _ (by simp)) (allow_load s.ccr s.a)
  | nop => cases h; exact follows_kept (frame_refl _ s) rfl rfl
  | swi => exact follows_swi (finish_eq_next.1 h)
  | rti => exact follows_rti (finish_eq_next.1 h)
  | wai =>
    obtain rfl := Host.Outcome.next.inj ((exec_wai s).symm.trans h)
    have hccr : (s.framed.setRunState .waiting).ccr = s.ccr := by rw [State.setRunState_ccr, framed_ccr]
    exact follows_kept (frame_setRunState (frame_framed rfl (.head _)) _ (by simp)) rfl hccr
  | stop =>
    cases h
    cases s.ccr.s with
    | true => exact follows_kept (frame_refl _ s) rfl rfl
    | false => exact follows_kept (frame_setRunState (frame_refl _ s) _ (by simp)) rfl rfl
  | test =>
    rw [exec_test] at h
    split at h
    · cases h
      exact follows_kept (frame_setRunState (frame_refl _ s) _ (by simp)) rfl rfl
    · cases h

/-- Settles O21: the flags of what an instruction obeys. -/
theorem flagMatrix : Obligations.FlagMatrix := fun _ _ _ h => (exec_follows h).flags

/-- Settles O22: the registers of an instruction's frame. -/
theorem registerFrame : Obligations.RegisterFrame := by
  intro i s t r h hr
  obtain ⟨_, hframe⟩ := exec_follows h
  cases r with
  | a => exact hframe.a hr
  | b => exact hframe.b hr
  | ix => exact hframe.ix hr
  | iy => exact hframe.iy hr
  | sp => exact hframe.sp hr

/-- Settles O24: the control fields of an instruction's frame, and what its accesses let devices see. -/
theorem controlFrame : Obligations.ControlFrame := by
  intro i s t h
  obtain ⟨_, hframe⟩ := exec_follows h
  exact ⟨hframe.pc, hframe.runState, hframe.iDelay, hframe.draws, hframe.pending, hframe.inputs, hframe.params,
    hframe.accessed.devices⟩

end Sys2Proof.Machine
end

section
/-! PROOF. Flags: INC, DEC, NEG and COM by the integers of 10_state.md R45 and R46, the reset state (R56), and the loading of
CCR from a byte (R47). -/

namespace Sys2Proof.Machine

variable {s : State}

/-! ### The bit formulas of the results and flags are those of the integers -/

theorem byte_beq_eq_decide (x y : Byte) : (x == y) = decide (x.toNat = y.toNat) := by
  rw [Bool.eq_iff_iff, beq_iff_eq, decide_eq_true_eq, BitVec.toNat_inj]

/-- N is the sign bit, the upper half of the bytes; Z is the byte 0 (10_state.md R37). -/
theorem nz8_eq_signZero8 (r : Byte) (f : CCR) : nz8 r f = Spec.signZero8 r f := by
  rw [nz8, BitVec.msb_eq_decide, byte_beq_eq_decide]
  rfl

/-- Of the signed bytes $7F alone has no successor. -/
theorem overflows8_succ (x : Byte) : Spec.overflows8 (x.toInt + 1) = (x == 0x7F) := by
  have hx := x.isLt
  rw [Spec.overflows8, byte_beq_eq_decide, decide_eq_decide, BitVec.toInt_eq_toNat_cond]
  split <;> bv_omega

/-- Of the signed bytes $80 alone has no predecessor. -/
theorem overflows8_pred (x : Byte) : Spec.overflows8 (x.toInt - 1) = (x == 0x80) := by
  have hx := x.isLt
  rw [Spec.overflows8, byte_beq_eq_decide, decide_eq_decide, BitVec.toInt_eq_toNat_cond]
  split <;> bv_omega

/-- Of the signed bytes $80 alone has no negative; it is its own two's complement. -/
theorem overflows8_neg (x : Byte) : Spec.overflows8 (-x.toInt) = (-x == 0x80) := by
  have hx := x.isLt
  rw [Spec.overflows8, byte_beq_eq_decide, decide_eq_decide, BitVec.toInt_eq_toNat_cond]
  split <;> bv_omega

/-- INC8 over the integers (10_state.md R45). -/
theorem inc8_eq_incByte (x : Byte) (f : CCR) : inc8 x f = Spec.incByte x f := by
  have hr : x + 1 = BitVec.ofNat 8 (x.toNat + 1) := by
    apply BitVec.eq_of_toNat_eq
    simp [BitVec.toNat_add]
  simp only [inc8, Spec.incByte, ← hr, nz8_eq_signZero8, overflows8_succ]

/-- DEC8 over the integers (10_state.md R45). -/
theorem dec8_eq_decByte (x : Byte) (f : CCR) : dec8 x f = Spec.decByte x f := by
  have hr : x - 1 = BitVec.ofNat 8 (x.toNat + 255) := by
    apply BitVec.eq_of_toNat_eq
    simp [BitVec.toNat_sub, Nat.add_comm]
  simp only [dec8, Spec.decByte, ← hr, nz8_eq_signZero8, overflows8_pred]

/-- NEG8 over the integers (10_state.md R46). -/
theorem neg8_eq_negByte (x : Byte) (f : CCR) : neg8 x f = Spec.negByte x f := by
  have hr : -x = BitVec.ofInt 8 (-x.toInt) := by rw [BitVec.ofInt_neg, BitVec.ofInt_toInt]
  have hc : (-x != 0) = decide (x.toNat ≠ 0) := by
    rw [bne, byte_beq_eq_decide, ← decide_not, decide_eq_decide]
    bv_omega
  simp only [neg8, Spec.negByte, ← hr, nz8_eq_signZero8, overflows8_neg, hc]

/-- COM8 over the integers (10_state.md R46). -/
theorem com8_eq_comByte (x : Byte) (f : CCR) : com8 x f = Spec.comByte x f := by
  have hr : ~~~x = BitVec.ofNat 8 (255 - x.toNat) := by
    apply BitVec.eq_of_toNat_eq
    rw [BitVec.toNat_not, BitVec.toNat_ofNat]
    omega
  simp only [com8, Spec.comByte, ← hr, nz8_eq_signZero8]

/-- NEG is the subtraction from 0, its borrow too (10_state.md R40, R46). -/
theorem negByte_eq_subByte (x : Byte) (f : CCR) : Spec.negByte x f = Spec.subByte 0 x false f := by
  have hd : (0 : Byte).toInt - x.toInt - (false.toNat : Int) = -x.toInt := by simp
  have hc : decide (((0 : Byte).toNat : Int) - x.toNat - (false.toNat : Int) < 0) = decide (x.toNat ≠ 0) := by
    rw [decide_eq_decide, Bool.toNat_false]
    bv_omega
  simp only [Spec.negByte, Spec.subByte, hd, hc]

/-! ### Read-modify-write -/

/-- A read-modify-write of a readable byte goes on to its store. -/
theorem finish_memUnary {op : Byte → CCR → Byte × CCR} {m : Addr} {v : Byte} (h : s.read8 (s.ea m) = .ok v) :
    finish (s.memUnary op m) = .next (((s.afterRead (s.ea m)).stored (s.ea m) (op v s.ccr).1).setCcr (op v s.ccr).2) :=
  finish_eq_next.2 (memUnary_eq_ok.2 ⟨v, h, rfl⟩)

/-- Settles O39: each form is INC8 or DEC8 of its byte, whose V is the sign boundary. -/
theorem incrementDecrement : Obligations.IncrementDecrement := by
  intro s
  have hinc : inc8 = Spec.incByte := funext₂ inc8_eq_incByte
  have hdec : dec8 = Spec.decByte := funext₂ dec8_eq_decByte
  rw [← hinc, ← hdec]
  exact ⟨rfl, rfl, rfl, rfl, fun m v h => ⟨finish_memUnary h, finish_memUnary h⟩, fun v => ⟨rfl, rfl⟩⟩

/-- Settles O40: each form is NEG8 or COM8 of its byte; NEG8 is also the subtraction from 0. -/
theorem negateComplement : Obligations.NegateComplement := by
  intro s
  have hneg : neg8 = Spec.negByte := funext₂ neg8_eq_negByte
  have hcom : com8 = Spec.comByte := funext₂ com8_eq_comByte
  rw [← hneg, ← hcom]
  refine ⟨rfl, rfl, rfl, rfl, fun m v h => ⟨finish_memUnary h, finish_memUnary h⟩, fun v => ⟨rfl, rfl, ?_, rfl⟩⟩
  rw [neg8_eq_negByte, negByte_eq_subByte]

/-! ### The reset state, and CCR from a byte -/

/-- Settles O20: empty memory is canonical, and the fields are those of 10_state.md R56. -/
theorem resetHasInvariant : Obligations.ResetHasInvariant :=
  ⟨⟨rfl, nofun, nofun⟩, rfl, rfl, rfl, rfl, rfl, Memory.read_nil⟩

/-- Settles O59: TAP loads A; RTI loads the first of the nine bytes it reads, and the registers take the others. -/
theorem loadingTheConditionCodes : Obligations.LoadingTheConditionCodes := by
  refine fun s => ⟨rfl, fun f b a xh xl yh yl ph pl h => ?_⟩
  simp only [exec, execRti, returnFromInterrupt_eq, h, Nat.reduceLT, ok_bind, finish_ok]
  rfl

end Sys2Proof.Machine
end

section
/-! PROOF. Masks: IDelay after I is cleared (10_state.md R54), and X, which no software raises (10_state.md R30). -/

namespace Sys2Proof.Machine

open Config

variable {s t : State} {i : Instr}

/-! ### What the environment presents leaves the machine's own fields -/

@[simp] theorem present_ccr (s : State) : s.present.ccr = s.ccr := by
  unfold State.present
  cases s.inputs <;> rfl

@[simp] theorem present_iDelay (s : State) : s.present.iDelay = s.iDelay := by
  unfold State.present
  cases s.inputs <;> rfl

@[simp] theorem present_params (s : State) : s.present.params = s.params := by
  unfold State.present
  cases s.inputs <;> rfl

/-! ### Masking -/

/-- XIRQ is masked by X (60_exceptions.md R424). -/
@[simp] theorem unmasked_xirq (s : State) : s.unmasked .xirq = !s.ccr.x := rfl

/-- Every other request is masked by I, and by IDelay. -/
theorem unmasked_maskable {j : IntSource} (h : j ≠ .xirq) : s.unmasked j = (!s.ccr.i && !s.iDelay) := by
  cases j
  case xirq => exact absurd rfl h
  all_goals rfl

/-- In the delay after I was cleared only XIRQ can be taken. -/
theorem chosen_eq_none_of_iDelay (hdelay : s.iDelay = true)
    (hxirq : ¬ (.interrupt .xirq ∈ s.pending ∧ s.ccr.x = false)) : s.chosen = none := by
  refine chosen_eq_none fun j hj => ?_
  by_cases hjx : j = .xirq
  · subst hjx
    simpa using fun hx => hxirq ⟨hj, hx⟩
  · simp [unmasked_maskable hjx, hdelay]

/-- CLI and TAP set IDelay when they clear I. -/
theorem iDelay_of_clears_mask (h : exec .cli s = .next t ∨ exec .tap s = .next t) (hs : s.ccr.i = true)
    (ht : t.ccr.i = false) : t.iDelay = true := by
  rcases h with h | h
  · cases h
    exact hs
  · cases h
    have hbit : s.a.getLsbD 4 = false := ht
    have hset : (s.ccr.i && !s.a.getLsbD 4) = true := by rw [hs, hbit]; rfl
    exact hset

/-- Settles O16: IDelay masks every maskable request, in the state that CLI or TAP leaves and at the boundary after it; the
frame of RTI keeps IDelay. -/
theorem delayAfterClearingMask : Obligations.DelayAfterClearingMask := by
  refine ⟨fun s t h hs ht j hj => ?_, fun s hreset hrun hdelay hxirq => ?_, fun s t h => ?_⟩
  · simp [unmasked_maskable hj, iDelay_of_clears_mask h hs ht]
  · exact step_of_runsNext ⟨hreset, hrun, chosen_eq_none_of_iDelay (by simpa using hdelay) (by simpa using hxirq)⟩
  · exact (exec_follows h).frame.iDelay (by simp)

/-! ### X -/

/-- Every row but TAP's and RTI's keeps X (10_state.md R50). -/
theorem cells_x_kept (htap : i ≠ .tap) (hrti : i ≠ .rti) : i.cells.x = .kept := by
  cases i
  case tap => exact absurd rfl htap
  case rti => exact absurd rfl hrti
  all_goals rfl

theorem exec_keeps_x (h : exec i s = .next t) (htap : i ≠ .tap) (hrti : i ≠ .rti) : t.ccr.x = s.ccr.x := by
  have hx := (exec_follows h).flags.x
  rwa [cells_x_kept htap hrti] at hx

theorem exec_tap_x (h : exec .tap s = .next t) : t.ccr.x = (s.ccr.x && s.a.getLsbD 6) := by
  cases h
  rfl

theorem readNth_zero (s : State) (x : Word) : s.readNth x 0 = s.read8 x := by
  rw [State.readNth, BitVec.add_zero]
  rfl

/-- The first byte that RTI pulls is CCR's (60_exceptions.md R432). -/
theorem exec_rti_x {v : Byte} (h : exec .rti s = .next t) (hv : s.read8 (s.sp + 1) = .ok v) :
    t.ccr.x = (s.ccr.x && v.getLsbD 6) := by
  have hret : s.returnFromInterrupt = .ok t := finish_eq_next.1 h
  rw [returnFromInterrupt_eq, readNth_zero, hv, ok_bind] at hret
  iterate 8 obtain ⟨_, _, hret⟩ := bind_eq_ok.1 hret
  cases hret
  rfl

/-- No instruction raises X: each keeps it, or lets it fall. -/
theorem exec_never_raises_x (h : exec i s = .next t) (ht : t.ccr.x = true) : s.ccr.x = true := by
  by_cases htap : i = .tap
  · subst htap
    exact (exec_follows h).flags.x ht
  by_cases hrti : i = .rti
  · subst hrti
    exact (exec_follows h).flags.x ht
  exact (exec_keeps_x h htap hrti).symm.trans ht

/-- The entry sets X for XIRQ alone (60_exceptions.md R430). -/
theorem enterHandler_x {src : Source} (h : s.enterHandler src = .ok t) :
    t.ccr.x = (s.ccr.x || decide (src = .interrupt .xirq)) := by
  obtain ⟨handler, _, rfl⟩ := enterHandler_eq_ok.1 h
  rfl

theorem takeException_x {src : Source} (h : s.takeException src = .ok t) :
    t.ccr.x = (s.ccr.x || decide (src = .interrupt .xirq)) := by
  rw [takeException_eq] at h
  rw [enterHandler_x h, framed_ccr]

/-- An instruction step does not raise X: not by its instruction, and not by the illegal opcode trap. -/
theorem instrStep_never_raises_x (h : s.instrStep = .next t) (ht : t.ccr.x = true) : s.ccr.x = true := by
  unfold State.instrStep at h
  split at h
  next i n hfetch =>
    have hx := exec_never_raises_x h ht
    simpa [State.atInstr, State.afterFetch] using hx
  next bytes hfetch =>
    unfold State.illegalOpcodeStep at h
    split at h
    · cases h
    · have hx := takeException_x (finish_eq_next.1 h)
      simpa [State.afterFetch, ht] using hx
  next stop hfetch => cases finish_eq_next.1 h

/-- A request whose entry raises X is XIRQ. -/
theorem eq_xirq_of_raises_x {j : IntSource} (hs : s.ccr.x = false) (ht : t.ccr.x = true)
    (h : t.ccr.x = (s.ccr.x || decide (Source.interrupt j = .interrupt .xirq))) : j = .xirq := by
  simpa [hs, ht] using h

/-- Between resets X rises by the XIRQ entry alone, in whatever run state. -/
theorem runStep_raises_x (h : s.runStep = .next t) (hs : s.ccr.x = false) (ht : t.ccr.x = true) :
    s.chosen = some .xirq ∨ s.chosenInStop = some .xirq := by
  have hst : t.ccr.x ≠ s.ccr.x := by simp [hs, ht]
  unfold State.runStep at h
  split at h
  · unfold State.runningStep at h
    split at h
    next j hj => exact .inl (eq_xirq_of_raises_x hs ht (takeException_x (finish_eq_next.1 h)) ▸ hj)
    next => exact absurd (instrStep_never_raises_x h ht) (by simp [hs])
  · unfold State.waitingStep at h
    split at h
    next j hj => exact .inl (eq_xirq_of_raises_x hs ht (enterHandler_x (finish_eq_next.1 h)) ▸ hj)
    next => cases h; exact absurd rfl hst
  · unfold State.stoppedStep at h
    split at h
    next j hj => exact .inr (eq_xirq_of_raises_x hs ht (takeException_x (finish_eq_next.1 h)) ▸ hj)
    next =>
      obtain rfl := Host.Outcome.next.inj h
      cases hres : s.resumesFromStop <;> exact absurd (by rw [hres]; rfl) hst
  · cases h
    exact absurd rfl hst

/-- A step that raises X is a reset or the XIRQ entry. -/
theorem step_raises_x (h : step s = .next t) (hs : s.ccr.x = false) (ht : t.ccr.x = true) :
    s.presentedReset ≠ none ∨ s.present.chosen = some .xirq ∨ s.present.chosenInStop = some .xirq := by
  unfold step State.boundaryStep at h
  split at h
  next r hr => exact .inl (by simp [hr])
  next => exact .inr (runStep_raises_x h (by simpa using hs) ht)

/-- Settles O25: the rows of the matrix keep X down, and every step but a reset or the XIRQ entry too. -/
theorem xNeverRisesBySoftware : Obligations.XNeverRisesBySoftware := by
  refine ⟨fun _ _ _ => exec_keeps_x, fun _ _ => exec_tap_x, fun _ _ _ => exec_rti_x, fun _ _ => step_raises_x,
    fun s t r h => ?_, fun s t h => ?_, fun s hx => ?_⟩
  · obtain ⟨_, hccr, _⟩ := resetStep_spec h
    rw [hccr]
    rfl
  · rw [takeException_x h]
    simp
  · rw [unmasked_xirq, hx]
    rfl

end Sys2Proof.Machine
end

section
/-! PROOF. Unreadable: what an instruction, an entry and a reset answer when a byte that they read holds no value
(10_state.md R57, 20_memory.md R84): the stop of that read. -/

namespace Sys2Proof.Machine

variable {s : State} {e : Stop}

/-! ### A sequence stops with its first part -/

theorem bind_of_error {α β : Type} {x : Except Stop α} {f : α → Except Stop β} (h : x = .error e) :
    (x >>= f) = .error e := by
  rw [h, error_bind]

theorem finish_bind_of_error {α : Type} {x : Except Stop α} {f : α → Except Stop State} (h : x = .error e) :
    finish (x >>= f) = finish (.error e) :=
  congrArg finish (bind_of_error h)

/-! ### Instructions with an operand -/

/-- An instruction with a byte operand stops with it. -/
theorem exec_of_opnd8_error {src : Src8} (h : s.opnd8 src = .error e) :
    ∀ i ∈ [.ldaa src, .ldab src, .adca src, .adcb src, .adda src, .addb src, .sbca src, .sbcb src, .suba src, .subb src,
      .cmpa src, .cmpb src, .anda src, .andb src, .bita src, .bitb src, .eora src, .eorb src, .oraa src, .orab src],
      exec i s = finish (.error e) := by
  simp only [List.forall_mem_cons, List.not_mem_nil, IsEmpty.forall_iff, implies_true, and_true]
  and_intros
  all_goals exact finish_bind_of_error h

/-- An instruction with a word operand stops with it. -/
theorem exec_of_opnd16_error {src : Src16} (h : s.opnd16 src = .error e) :
    ∀ i ∈ [.ldd src, .lds src, .ldx src, .ldy src, .addd src, .subd src, .cpd src, .cpx src, .cpy src],
      exec i s = finish (.error e) := by
  simp only [List.forall_mem_cons, List.not_mem_nil, IsEmpty.forall_iff, implies_true, and_true]
  and_intros
  all_goals exact finish_bind_of_error h

/-- An instruction that reads the byte at M, to write it back or to test it, stops with that read. -/
theorem exec_of_read8_error {m : Addr} (mm rr : Byte) (h : s.read8 (s.ea m) = .error e) :
    ∀ i ∈ [.neg m, .inc m, .dec m, .com m, .asl m, .lsl m, .asr m, .lsr m, .rol m, .ror m, .tst m, .bclr m mm,
      .bset m mm, .brclr m mm rr, .brset m mm rr], exec i s = finish (.error e) := by
  simp only [List.forall_mem_cons, List.not_mem_nil, IsEmpty.forall_iff, implies_true, and_true]
  and_intros
  all_goals exact finish_bind_of_error h

/-! ### Pulls -/

theorem pull8_of_error (h : s.read8 (s.sp + 1) = .error e) : s.pull8 = .error e := bind_of_error h

/-- A pull of a word stops with the first of its two reads that does. -/
theorem pull16_of_error (h : s.read16 (s.sp + 1) = .error e) : s.pull16 = .error e := by
  unfold State.read16 at h
  cases hhigh : s.read8 (s.sp + 1) with
  | error e' =>
    rw [hhigh] at h
    cases h
    exact bind_of_error (pull8_of_error hhigh)
  | ok v =>
    rw [hhigh, ok_bind] at h
    cases hlow : (s.afterRead (s.sp + 1)).read8 (s.sp + 1 + 1) with
    | ok w =>
      rw [hlow] at h
      cases h
    | error e' =>
      rw [hlow] at h
      cases h
      rw [State.pull16, pull8_eq_ok.2 ⟨v, hhigh, rfl⟩, ok_bind]
      exact bind_of_error (pull8_of_error hlow)

theorem exec_of_pull8_error (h : s.read8 (s.sp + 1) = .error e) :
    ∀ i ∈ [.pula, .pulb], exec i s = finish (.error e) := by
  simp only [List.forall_mem_cons, List.not_mem_nil, IsEmpty.forall_iff, implies_true, and_true]
  exact ⟨finish_bind_of_error (pull8_of_error h), finish_bind_of_error (pull8_of_error h)⟩

theorem exec_of_pull16_error (h : s.read16 (s.sp + 1) = .error e) :
    ∀ i ∈ [.pulx, .puly, .rts], exec i s = finish (.error e) := by
  simp only [List.forall_mem_cons, List.not_mem_nil, IsEmpty.forall_iff, implies_true, and_true]
  and_intros
  all_goals exact finish_bind_of_error (pull16_of_error h)

/-! ### The nine reads of RTI: which of them stops does not depend on what devices have seen before -/

/-- A byte that cannot be read cannot be read after other reads. -/
theorem readNth_of_read8_error {x : Word} {k : Nat} (h : s.read8 (x + BitVec.ofNat 16 k) = .error e) :
    s.readNth x k = .error e := by
  rw [read8_eq_error] at h
  rw [State.readNth, read8_eq_error, State.afterReads_kind, State.afterReads_mem]
  exact h

/-- A byte that can be read can be read after other reads, if with another value at a device. -/
theorem readNth_of_read8_ok {x : Word} {k : Nat} (h : ∃ v, s.read8 (x + BitVec.ofNat 16 k) = .ok v) :
    ∃ v, s.readNth x k = .ok v := by
  cases hk : s.readNth x k with
  | ok v => exact ⟨v, rfl⟩
  | error e =>
    obtain ⟨v, hv⟩ := h
    rw [State.readNth, read8_eq_error, State.afterReads_kind, State.afterReads_mem, ← read8_eq_error, hv] at hk
    cases hk

/-- RTI stops with the first of its nine reads that does. -/
theorem returnFromInterrupt_of_error {k : Nat} (hk : k < 9) (hok : ∀ j < k, ∃ v, s.readNth (s.sp + 1) j = .ok v)
    (h : s.readNth (s.sp + 1) k = .error e) : s.returnFromInterrupt = .error e := by
  choose v hv using hok
  rw [returnFromInterrupt_eq]
  interval_cases k
  all_goals simp only [hv, Nat.reduceLT, Nat.ofNat_pos, ok_bind, h, error_bind]

/-- RTI stops with the first byte of the frame that cannot be read. -/
theorem exec_rti_of_error {k : Nat} (hk : k < 9) (hok : ∀ j < k, ∃ v, s.read8 (s.sp + BitVec.ofNat 16 (j + 1)) = .ok v)
    (h : s.read8 (s.sp + BitVec.ofNat 16 (k + 1)) = .error e) : exec .rti s = finish (.error e) := by
  have haddr : ∀ j, s.sp + BitVec.ofNat 16 (j + 1) = s.sp + 1 + BitVec.ofNat 16 j := fun j => by
    rw [Nat.add_comm, BitVec.ofNat_add, ← BitVec.add_assoc]
    rfl
  simp only [haddr] at hok h
  exact congrArg finish (returnFromInterrupt_of_error hk (fun j hj => readNth_of_read8_ok (hok j hj))
    (readNth_of_read8_error h))

/-! ### Entries and steps -/

/-- The entry into a handler stops with the read of its vector. -/
theorem enterHandler_of_error {src : Config.Source} (h : s.read16 (vectorAddress s.params.vectors src) = .error e) :
    s.enterHandler src = .error e :=
  bind_of_error h

/-- So does a whole entry, whose frame never stops. -/
theorem takeException_of_error {src : Config.Source}
    (h : s.framed.read16 (vectorAddress s.params.vectors src) = .error e) : s.takeException src = .error e := by
  rw [takeException_eq]
  exact enterHandler_of_error (by rwa [framed_params])

theorem step_of_fetch_error (hruns : s.RunsNext) (h : s.present.fetch = .error e) : step s = finish (.error e) := by
  simp only [step_of_runsNext hruns, State.instrStep, h]

/-- The illegal opcode trap stops with the read of its vector. -/
theorem step_of_trap_error {bytes : List Byte} (hruns : s.RunsNext) (hfetch : s.present.fetch = .ok (.illegal bytes))
    (hpolicy : s.params.illegalOpcode = .trap)
    (h : (s.present.afterFetch bytes.length).framed.read16 (vectorAddress s.params.vectors .illop) = .error e) :
    step s = finish (.error e) := by
  have hparams : (s.present.afterFetch bytes.length).params = s.params := by simp [State.afterFetch]
  simp only [step_of_runsNext hruns, State.instrStep, hfetch, State.illegalOpcodeStep, present_params, hpolicy]
  rw [takeException_of_error (hparams.symm ▸ h)]

/-- At a boundary without a reset the run state decides. -/
theorem step_of_noReset (h : s.presentedReset = none) : step s = s.present.runStep := by
  simp only [step, State.boundaryStep, h]

/-- The entry of a request from Running or from Stopped stops with the read of its vector. -/
theorem step_of_entry_error {i : Config.IntSource} (hreset : s.presentedReset = none)
    (hi : s.present.runState = .running ∧ s.present.chosen = some i ∨
      s.present.runState = .stopped ∧ s.present.chosenInStop = some i)
    (h : s.present.framed.read16 (vectorAddress s.params.vectors (.interrupt i)) = .error e) :
    step s = finish (.error e) := by
  rw [← present_params] at h
  rw [step_of_noReset hreset, ← takeException_of_error h]
  rcases hi with ⟨hrun, hchosen⟩ | ⟨hrun, hchosen⟩
  · simp only [State.runStep, hrun, State.runningStep, hchosen]
  · simp only [State.runStep, hrun, State.stoppedStep, hchosen]

/-- The exit of Waiting stops with the read of its vector. -/
theorem step_of_wait_error {i : Config.IntSource} (hreset : s.presentedReset = none) (hrun : s.present.runState = .waiting)
    (hchosen : s.present.chosen = some i)
    (h : s.present.read16 (vectorAddress s.params.vectors (.interrupt i)) = .error e) : step s = finish (.error e) := by
  rw [← present_params] at h
  simp only [step_of_noReset hreset, State.runStep, hrun, State.waitingStep, hchosen, enterHandler_of_error h]

/-- The devices' log and the bytes of memory, which a read looks at, are not the environment's. -/
theorem noteDevice_present_read16 (s : State) (ev : Config.DeviceEvent) (x : Word) :
    (s.present.noteDevice ev).read16 x = (s.noteDevice ev).read16 x := by
  unfold State.present
  cases s.inputs <;> rfl

/-- A reset stops with the read of its vector. -/
theorem step_of_reset_error {r : Config.ResetSource} (hreset : s.presentedReset = some r)
    (h : (s.noteDevice (.reset r)).read16 (vectorAddress s.params.vectors (.reset r)) = .error e) :
    step s = finish (.error e) := by
  rw [← noteDevice_present_read16, ← present_params] at h
  simp only [step, State.boundaryStep, hreset]
  exact finish_bind_of_error h

/-- Settles O29: the stop of each read is the stop of what reads. -/
theorem accessStops : Obligations.AccessStops := fun _ _ =>
  ⟨fun _ => exec_of_opnd8_error, fun _ => exec_of_opnd16_error, fun _ => exec_of_read8_error, exec_of_pull8_error,
    exec_of_pull16_error, fun _ => exec_rti_of_error, fun h => congrArg finish (takeException_of_error h),
    step_of_fetch_error, fun _ => step_of_trap_error, fun _ => step_of_entry_error, fun _ => step_of_wait_error,
    fun _ => step_of_reset_error⟩

end Sys2Proof.Machine
end

section
/-! PROOF. Invariant: the cases of a step (00_scope.md R15), and that each keeps the machine's invariant (20_memory.md R70,
10_state.md R54, 48_ccr_system.md R414). -/

namespace Sys2Proof.Machine

open Config

variable {s t : State} {i : Instr}

/-! ### A step, by cases -/

@[simp] theorem present_mem (s : State) : s.present.mem = s.mem := by
  unfold State.present
  cases s.inputs <;> rfl

@[simp] theorem present_runState (s : State) : s.present.runState = s.runState := by
  unfold State.present
  cases s.inputs <;> rfl

/-- What a machine does at a boundary without a reset (00_scope.md R15, 60_exceptions.md R436, R437). -/
inductive State.Acts (s t : State) : Prop
  /-- A request is taken from Running or from Stopped. -/
  | entry (j : IntSource)
      (hj : s.runState = .running ∧ s.chosen = some j ∨ s.runState = .stopped ∧ s.chosenInStop = some j)
      (h : s.takeException (.interrupt j) = .ok t)
  /-- A request ends the wait; the frame is stacked already. -/
  | leaveWait (j : IntSource) (hrun : s.runState = .waiting) (hj : s.chosen = some j)
      (h : s.enterHandler (.interrupt j) = .ok t)
  | instr (i : Instr) (n : Nat) (hrun : s.runState = .running) (hj : s.chosen = none) (hf : s.fetch = .ok (.instr i n))
      (h : exec i (s.atInstr n) = .next t)
  /-- An unlisted opcode under the policy `trap`. -/
  | trap (bytes : List Byte) (hrun : s.runState = .running) (hj : s.chosen = none)
      (hf : s.fetch = .ok (.illegal bytes)) (hp : s.params.illegalOpcode = .trap)
      (h : (s.afterFetch bytes.length).takeException .illop = .ok t)
  /-- A masked XIRQ ends STOP without an entry. -/
  | resume (hrun : s.runState = .stopped) (hj : s.chosenInStop = none) (hx : s.resumesFromStop = true)
      (h : t = s.setRunState .running)
  /-- Nothing is taken in Waiting or in Stopped, or TEST goes on. -/
  | stay (hrun : s.runState = .waiting ∧ s.chosen = none ∨
        s.runState = .stopped ∧ s.chosenInStop = none ∧ s.resumesFromStop = false ∨ s.runState = .testing)
      (h : t = s)

/-- An instruction step that answers ran an instruction, or trapped. -/
theorem acts_of_instrStep (hrun : s.runState = .running) (hj : s.chosen = none) (h : s.instrStep = .next t) :
    s.Acts t := by
  unfold State.instrStep at h
  split at h
  next i n hf => exact .instr i n hrun hj hf h
  next bytes hf =>
    unfold State.illegalOpcodeStep at h
    split at h
    next => cases h
    next hp => exact .trap bytes hrun hj hf hp (finish_eq_next.1 h)
  next stop hf => cases finish_eq_next.1 h

/-- Each run state has its own cases. -/
theorem acts_of_runStep (h : s.runStep = .next t) : s.Acts t := by
  unfold State.runStep at h
  split at h
  next hrun =>
    unfold State.runningStep at h
    split at h
    next j hj => exact .entry j (.inl ⟨hrun, hj⟩) (finish_eq_next.1 h)
    next hj => exact acts_of_instrStep hrun hj h
  next hrun =>
    unfold State.waitingStep at h
    split at h
    next j hj => exact .leaveWait j hrun hj (finish_eq_next.1 h)
    next hj => exact .stay (.inl ⟨hrun, hj⟩) (Host.Outcome.next.inj h).symm
  next hrun =>
    unfold State.stoppedStep at h
    split at h
    next j hj => exact .entry j (.inr ⟨hrun, hj⟩) (finish_eq_next.1 h)
    next hj =>
      have ht := (Host.Outcome.next.inj h).symm
      cases hx : s.resumesFromStop with
      | true => exact .resume hrun hj hx (by simpa [hx] using ht)
      | false => exact .stay (.inr (.inl ⟨hrun, hj, hx⟩)) (by simpa [hx] using ht)
  next hrun => exact .stay (.inr (.inr hrun)) (Host.Outcome.next.inj h).symm

/-- A step that answers is the reset presented, or what the machine does without one. -/
theorem step_cases (h : step s = .next t) :
    (∃ r, s.presentedReset = some r ∧ s.present.resetStep r = .ok t) ∨ s.presentedReset = none ∧ s.present.Acts t := by
  unfold step State.boundaryStep at h
  split at h
  next r hr => exact .inl ⟨r, hr, finish_eq_next.1 h⟩
  next hr => exact .inr ⟨hr, acts_of_runStep h⟩

/-! ### The invariant -/

/-- A machine that runs without the delay meets the invariant when its memory is canonical. -/
theorem inv_of_running (hmem : Memory.wf s.mem = true) (hdelay : s.iDelay = false) (hrun : s.runState = .running) :
    s.Inv :=
  ⟨hmem, by simp [hdelay], by simp [hrun]⟩

theorem State.Inv.present (hs : s.Inv) : s.present.Inv :=
  ⟨by simpa using hs.memory, by simpa using hs.delay, by simpa using hs.testing⟩

/-- IDelay stands in the running state alone. -/
theorem State.Inv.iDelay_of_not_running (hs : s.Inv) (hrun : s.runState ≠ .running) : s.iDelay = false :=
  Bool.eq_false_iff.2 fun hdelay => hrun (hs.delay hdelay).2

/-- A reset keeps memory, and clears IDelay and runs. -/
theorem resetStep_inv {r : ResetSource} (hmem : Memory.wf s.mem = true) (h : s.resetStep r = .ok t) : t.Inv := by
  obtain ⟨_, _, hrun, hdelay, hm, _⟩ := resetStep_spec h
  exact inv_of_running (hm ▸ hmem) hdelay hrun

/-- The entry of a handler keeps memory, and clears IDelay and runs. -/
theorem enterHandler_inv {src : Source} (hmem : Memory.wf s.mem = true) (h : s.enterHandler src = .ok t) : t.Inv := by
  obtain ⟨handler, _, rfl⟩ := enterHandler_eq_ok.1 h
  exact inv_of_running ((accessed_handled s src handler []).memory.wf hmem) rfl rfl

/-- The nine stores of a frame keep memory canonical. -/
theorem takeException_inv {src : Source} (hmem : Memory.wf s.mem = true) (h : s.takeException src = .ok t) : t.Inv := by
  rw [takeException_eq] at h
  exact enterHandler_inv ((accessed_framed s).memory.wf hmem) h

theorem exec_memory_wf (h : exec i s = .next t) (hmem : Memory.wf s.mem = true) : Memory.wf t.mem = true :=
  (exec_follows h).frame.accessed.memory.wf hmem

/-- An instruction sets IDelay only as it leaves I clear, and it runs on: CLI or TAP (10_state.md R54). -/
theorem exec_delay (h : exec i s = .next t) (hs : s.iDelay = false) (ht : t.iDelay = true) :
    t.ccr.i = false ∧ t.runState = s.runState := by
  obtain ⟨_, hframe⟩ := exec_follows h
  by_cases hi : i ∈ [.cli, .tap, .swi]
  · simp only [List.mem_cons, List.not_mem_nil, or_false] at hi
    rcases hi with rfl | rfl | rfl
    · cases h
      exact ⟨rfl, rfl⟩
    · cases h
      have hset : (s.ccr.i && !s.a.getLsbD 4) = true := ht
      obtain ⟨_, hbit⟩ := Bool.and_eq_true_iff.1 hset
      exact ⟨by rwa [Bool.not_eq_true'] at hbit, rfl⟩
    · obtain ⟨handler, _, rfl⟩ := takeException_eq_ok.1 (finish_eq_next.1 h)
      cases ht
  · rw [hframe.iDelay hi, hs] at ht
    cases ht

/-- An instruction enters the endless TEST only where TestMode allows it (48_ccr_system.md R414). -/
theorem exec_testing (h : exec i s = .next t) (hs : s.runState ≠ .testing) (ht : t.runState = .testing) :
    s.params.testMode = true := by
  obtain ⟨_, hframe⟩ := exec_follows h
  by_cases hi : i ∈ [.wai, .stop, .test, .swi]
  · simp only [List.mem_cons, List.not_mem_nil, or_false] at hi
    rcases hi with rfl | rfl | rfl | rfl
    · obtain rfl := Host.Outcome.next.inj ((exec_wai s).symm.trans h)
      cases ht
    · cases h
      cases hS : s.ccr.s with
      | true => exact absurd (by simpa [hS] using ht) hs
      | false => simp [hS] at ht
    · rw [exec_test] at h
      split at h
      next hmode => exact hmode
      next => cases h
    · obtain ⟨handler, _, rfl⟩ := takeException_eq_ok.1 (finish_eq_next.1 h)
      cases ht
  · exact absurd ((hframe.runState hi).symm.trans ht) hs

/-- An instruction that starts in Running with IDelay cleared, as every instruction does, leaves the invariant. -/
theorem exec_inv (hmem : Memory.wf s.mem = true) (hdelay : s.iDelay = false) (hrun : s.runState = .running)
    (h : exec i s = .next t) : t.Inv where
  memory := exec_memory_wf h hmem
  delay ht := by
    obtain ⟨hmask, hsame⟩ := exec_delay h hdelay ht
    exact ⟨hmask, hsame.trans hrun⟩
  testing ht := by
    rw [(exec_follows h).frame.params]
    exact exec_testing h (by simp [hrun]) ht

/-- What the machine does without a reset keeps the invariant. -/
theorem State.Acts.inv (h : s.Acts t) (hs : s.Inv) : t.Inv := by
  cases h with
  | entry j hj h => exact takeException_inv hs.memory h
  | leaveWait j hrun hj h => exact enterHandler_inv hs.memory h
  | instr i n hrun hj hf h =>
    refine exec_inv (s := s.atInstr n) ?_ rfl ?_ h
    · simpa [State.atInstr, State.afterFetch] using hs.memory
    · simpa [State.atInstr, State.afterFetch] using hrun
  | trap bytes hrun hj hf hp h =>
    exact takeException_inv (by simpa [State.afterFetch] using hs.memory) h
  | resume hrun hj hx h =>
    subst h
    exact inv_of_running hs.memory (hs.iDelay_of_not_running (by simp [hrun])) rfl
  | stay hrun h => exact h ▸ hs

/-- Settles O19: by the cases of a step; a reset and an entry clear IDelay, and an instruction sets it only with I clear. -/
theorem stepKeepsInvariant : Obligations.StepKeepsInvariant := by
  intro s t hs h
  rcases step_cases h with ⟨r, _, hreset⟩ | ⟨_, hacts⟩
  · exact resetStep_inv hs.present.memory hreset
  · exact hacts.inv hs.present

end Sys2Proof.Machine
end

section
/-! PROOF. Storage: the bytes that an instruction leaves alone (20_memory.md R91), and what is read back after a store, a push
or a call (R71 to R79). -/

namespace Sys2Proof.Machine

variable {s t : State} {i : Instr}

/-! ### The bytes an instruction leaves alone -/

/-- Settles O23: the memory of an instruction's frame. -/
theorem memoryFrame : Obligations.MemoryFrame := by
  intro i s t x h hx
  obtain ⟨_, hframe⟩ := exec_follows h
  exact ⟨hframe.accessed.memory.frame x hx, hframe.accessed.read8 hframe.params hx⟩

/-! ### Words in RAM -/

/-- No word is its own successor, also where addresses wrap. -/
theorem word_ne_add_one (a : Word) : a ≠ a + 1 := by bv_omega

theorem kind_ne_device_of_ram {x : Word} (h : s.kind x = .ram) : s.kind x ≠ .device := by simp [h]

/-- Where no device is, a word is its two bytes as the state lists them. -/
theorem read16_of_read8 {a : Word} {h l : Byte} (hk : s.kind a ≠ .device) (hh : s.read8 a = .ok h)
    (hl : s.read8 (a + 1) = .ok l) : s.read16 a = .ok (joinBytes h l) :=
  read16_eq_ok.2 ⟨h, l, hh, by rwa [s.afterRead_storage hk], rfl⟩

/-- A word stored in RAM is read back. -/
theorem stored16_read16 {a : Word} (w : Word) (h : s.kind a = .ram) (h' : s.kind (a + 1) = .ram) :
    (s.stored16 a w).read16 a = .ok w := by
  have hhi : (s.stored16 a w).read8 a = .ok (hiByte w) := by
    rw [State.stored16, stored_read8_ram _ _ (by rwa [stored_kind]), if_neg (word_ne_add_one a), stored_read8_same _ h]
  have hlo : (s.stored16 a w).read8 (a + 1) = .ok (loByte w) := stored_read8_same _ (by rwa [stored_kind])
  rw [read16_of_read8 (kind_ne_device_of_ram (by rwa [State.stored16, stored_kind, stored_kind])) hhi hlo, joinBytes_split]

/-- Settles O27: each clause is the rule of `State.stored` for its kind of address. -/
theorem storedByte : Obligations.StoredByte := by
  refine fun s addr v => ⟨write8_ok s addr v, stored_device v, fun hram => ⟨stored_read8_same v hram, ?_⟩,
    stored_ignored v, fun x hx hk => stored_read8_other v hx (.inr hk), write16_ok s addr, stored16_read16⟩
  rw [stored_ram v hram, State.setMem_deviceLog]

/-! ### Push and pull -/

theorem word_pred (x : Word) : x - 1 = BitVec.ofNat 16 (x.toNat + 65535) := by bv_omega

theorem word_succ (x : Word) : x + 1 = BitVec.ofNat 16 (x.toNat + 1) := by bv_omega

/-- Settles O35: SP moves by one mod 65536, and a pull is the read above it. -/
theorem pushAndPullOperations : Obligations.PushAndPullOperations := by
  intro s v
  rw [← word_pred, ← word_succ]
  exact ⟨push8_ok s v, fun h => pull8_eq_ok.2 ⟨v, h, rfl⟩, fun e => pull8_of_error⟩

/-- A byte pushed on RAM is pulled back, and SP is as it was. -/
theorem pull8_of_pushed (v : Byte) (h : s.kind s.sp = .ram) :
    ((s.stored s.sp v).setSp (s.sp - 1)).pull8 = .ok (v, (s.stored s.sp v).setSp s.sp) := by
  have hsp : s.sp - 1 + 1 = s.sp := BitVec.sub_add_cancel _ _
  refine pull8_eq_ok.2 ⟨v, ?_, ?_⟩
  · rw [State.setSp_sp, hsp, State.setSp_read8, stored_read8_same v h]
  · rw [State.setSp_sp, hsp, State.afterRead_storage _ (by simp [h]), State.setSp_setSp]

@[simp] theorem pushed16_a (s : State) (v : Word) : (s.pushed16 v).a = s.a := by rw [pushed16_eq]; rfl
@[simp] theorem pushed16_b (s : State) (v : Word) : (s.pushed16 v).b = s.b := by rw [pushed16_eq]; rfl
@[simp] theorem pushed16_ix (s : State) (v : Word) : (s.pushed16 v).ix = s.ix := by rw [pushed16_eq]; rfl
@[simp] theorem pushed16_iy (s : State) (v : Word) : (s.pushed16 v).iy = s.iy := by rw [pushed16_eq]; rfl
@[simp] theorem pushed16_sp (s : State) (v : Word) : (s.pushed16 v).sp = s.sp - 2 := rfl
@[simp] theorem pushed16_ccr (s : State) (v : Word) : (s.pushed16 v).ccr = s.ccr := by rw [pushed16_eq]; rfl
@[simp] theorem pushed16_kind (s : State) (v x : Word) : (s.pushed16 v).kind x = s.kind x := by rw [pushed16_eq]; rfl

/-- A word pushed on RAM stands with its high byte below SP and its low byte at SP (20_memory.md R79). -/
theorem pushed16_read16 (v : Word) (h : s.kind s.sp = .ram) (h' : s.kind (s.sp - 1) = .ram) :
    (s.pushed16 v).read16 (s.sp - 1) = .ok v := by
  have hsp : s.sp - 1 + 1 = s.sp := BitVec.sub_add_cancel _ _
  have hram : (s.stored s.sp (loByte v)).kind (s.sp - 1) = .ram := by rwa [stored_kind]
  have hhi : (s.pushed16 v).read8 (s.sp - 1) = .ok (hiByte v) := by
    rw [State.pushed16, State.setSp_read8, stored_read8_same _ hram]
  have hlo : (s.pushed16 v).read8 (s.sp - 1 + 1) = .ok (loByte v) := by
    rw [State.pushed16, State.setSp_read8, stored_read8_ram _ _ hram, if_neg (word_ne_add_one _).symm, hsp,
      stored_read8_same _ h]
  rw [read16_of_read8 (kind_ne_device_of_ram (by rwa [pushed16_kind])) hhi hlo, joinBytes_split]

/-- With SP two below RAM that holds a word, a pull answers the word and moves SP alone. -/
theorem pull16_of_ram {p v : Word} (hsp : t.sp = p - 2) (hk : t.kind (p - 1) = .ram) (hk' : t.kind p = .ram)
    (hv : t.read16 (p - 1) = .ok v) : t.pull16 = .ok (v, t.setSp p) := by
  have hone : t.sp + 1 = p - 1 := by rw [hsp]; bv_omega
  have htwo : t.sp + 2 = p := by rw [hsp]; exact BitVec.sub_add_cancel _ _
  have hafter : t.afterRead16 (p - 1) = t := by
    rw [State.afterRead16, BitVec.sub_add_cancel, t.afterRead_storage (kind_ne_device_of_ram hk),
      t.afterRead_storage (kind_ne_device_of_ram hk')]
  exact pull16_eq_ok.2 ⟨v, by rwa [hone], by rw [hone, htwo, hafter]⟩

/-- A word pushed on RAM is pulled back, and SP is as it was. -/
theorem pull16_of_pushed (v : Word) (h : s.kind s.sp = .ram) (h' : s.kind (s.sp - 1) = .ram) :
    (s.pushed16 v).pull16 = .ok (v, (s.pushed16 v).setSp s.sp) :=
  pull16_of_ram rfl (by rwa [pushed16_kind]) (by rwa [pushed16_kind]) (pushed16_read16 v h h')

/-- JSR and BSR push the return address and go to some target. -/
theorem exec_call (h : (∃ m, i = .jsr m) ∨ ∃ rr, i = .bsr rr) (s : State) :
    ∃ target, exec i s = .next ((s.pushed16 s.pc).setPc target) := by
  rcases h with ⟨m, rfl⟩ | ⟨rr, rfl⟩
  · exact ⟨s.ea m, congrArg finish (callTo_ok _)⟩
  · exact ⟨s.relTarget rr, congrArg finish (callTo_ok _)⟩

theorem exec_pulb_of_pull8 {p : Byte × State} (h : s.pull8 = .ok p) : exec .pulb s = .next (p.2.setB p.1) := by
  simp only [exec, execPulb, h, ok_bind, finish_ok]

theorem exec_puly_of_pull16 {p : Word × State} (h : s.pull16 = .ok p) : exec .puly s = .next (p.2.setIy p.1) := by
  simp only [exec, execPuly, h, ok_bind, finish_ok]

theorem exec_rts_of_pull16 {p : Word × State} (h : s.pull16 = .ok p) : exec .rts s = .next (p.2.setPc p.1) := by
  simp only [exec, execRts, h, ok_bind, finish_ok]

/-- Settles O57: each pull undoes its push. -/
theorem pushThenPullAndCallThenReturn : Obligations.PushThenPullAndCallThenReturn := by
  refine fun s hram => ⟨?_, fun hram' => ⟨?_, fun i hi => ?_⟩⟩
  · refine ⟨_, _, congrArg finish (push8_ok s s.a), exec_pulb_of_pull8 (pull8_of_pushed s.a hram), ?_⟩
    simp
  · have hsp : (s.pushed16 s.ix).sp + 1 = s.sp - 1 := by rw [pushed16_sp]; bv_omega
    refine ⟨_, _, congrArg finish (push16_ok s s.ix), ?_, exec_puly_of_pull16 (pull16_of_pushed s.ix hram hram'), ?_⟩
    · rw [hsp, pushed16_read16 s.ix hram hram']
    · simp
  · obtain ⟨target, hcall⟩ := exec_call hi s
    have hpc : ((s.pushed16 s.pc).setPc target).read16 (s.sp - 1) = .ok s.pc := by
      rw [State.setPc_read16, pushed16_read16 s.pc hram hram']
    have hpull : ((s.pushed16 s.pc).setPc target).pull16 = .ok (s.pc, ((s.pushed16 s.pc).setPc target).setSp s.sp) :=
      pull16_of_ram rfl (by rwa [State.setPc_kind, pushed16_kind]) (by rwa [State.setPc_kind, pushed16_kind]) hpc
    refine ⟨_, _, hcall, exec_rts_of_pull16 hpull, ?_⟩
    simpa using hpc

end Sys2Proof.Machine
end

section
/-! PROOF. Decoding: what the decoder answers (30_encoding.md R102), as a relation between byte strings and instructions:
an opcode string that a map lists, and operand bytes that its form takes. -/

namespace Sys2Proof

open Machine

variable {ε : Type} {get : Nat → Except ε Byte} {b : Byte} {i : Instr} {form : Form}

/-! ### Looking an opcode up -/

theorem lookupForm_cons (k : Byte) (f : Form) (rest : List (Byte × Form)) (b : Byte) :
    lookupForm ((k, f) :: rest) b = if b = k then some f else lookupForm rest b := rfl

/-- A form that is found stands in the map. -/
theorem mem_of_lookupForm {page : List (Byte × Form)} (h : lookupForm page b = some form) : (b, form) ∈ page := by
  induction page with
  | nil => cases h
  | cons e rest ih =>
    rw [lookupForm_cons] at h
    split at h
    next hb =>
      cases h
      subst hb
      exact .head _
    next => exact .tail _ (ih h)

/-- A byte is missed exactly when it is no key of the map. -/
theorem lookupForm_eq_none {page : List (Byte × Form)} : lookupForm page b = none ↔ b ∉ page.map (·.1) := by
  induction page with
  | nil => simp [lookupForm]
  | cons e rest ih =>
    rw [lookupForm_cons, List.map_cons, List.mem_cons, not_or, ← ih]
    split <;> simp [*]

/-- Entries that the byte cannot match do not matter. -/
theorem lookupForm_filter {p : Byte → Bool} (hp : p b = true) (page : List (Byte × Form)) :
    lookupForm (page.filter fun e => p e.1) b = lookupForm page b := by
  induction page with
  | nil => rfl
  | cons e rest ih =>
    rw [lookupForm_cons, List.filter_cons]
    by_cases hb : b = e.1
    · rw [if_pos hb, if_pos (hb ▸ hp), lookupForm_cons, if_pos hb]
    · rw [if_neg hb, ← ih]
      split
      · rw [lookupForm_cons, if_neg hb]
      · rfl

/-- The rows of the page 1 map, by the high digit of the opcode (30_encoding.md R113). -/
def pageOneRow : Nat → List (Byte × Form)
  | 0x0 => pageOneRow0
  | 0x1 => pageOneRow1
  | 0x2 => pageOneRow2
  | 0x3 => pageOneRow3
  | 0x4 => pageOneRow4
  | 0x5 => pageOneRow5
  | 0x6 => pageOneRow6
  | 0x7 => pageOneRow7
  | 0x8 => pageOneRow8
  | 0x9 => pageOneRow9
  | 0xA => pageOneRowA
  | 0xB => pageOneRowB
  | 0xC => pageOneRowC
  | 0xD => pageOneRowD
  | 0xE => pageOneRowE
  | 0xF => pageOneRowF
  | _ => []

/-- A row holds the entries of page 1 with its high digit. -/
theorem pageOne_filter {n : Nat} (h : n < 16) : (pageOne.filter fun e => e.1.toNat / 16 == n) = pageOneRow n := by
  simp only [pageOne, List.filter_append]
  interval_cases n <;> rfl

theorem lookupForm_pageOne (b : Byte) : lookupForm pageOne b = lookupForm (pageOneRow (b.toNat / 16)) b := by
  rw [← pageOne_filter (by have := b.isLt; omega)]
  exact (lookupForm_filter (p := fun k => k.toNat / 16 == b.toNat / 16) (by simp) pageOne).symm

/-- The form that the maps list for an opcode string: one byte, or a prebyte and a byte (30_encoding.md R102, R103). -/
def formOf : List Byte → Option Form
  | [b] => (prebytePage b).elim (lookupForm (pageOneRow (b.toNat / 16)) b) fun _ => none
  | [pre, op] => (prebytePage pre).bind fun page => lookupForm page op
  | _ => none

theorem formOf_single (h : prebytePage b = none) : formOf [b] = lookupForm pageOne b := by
  rw [lookupForm_pageOne, formOf, h]
  rfl



theorem formOf_prebyte {pre op : Byte} {page : List (Byte × Form)} (h : prebytePage pre = some page) :
    formOf [pre, op] = lookupForm page op := by
  rw [formOf, h]
  rfl

/-! ### Reading bytes -/

/-- The source of bytes answers these from the offset on. -/
def Supplies (get : Nat → Except ε Byte) : Nat → List Byte → Prop
  | _, [] => True
  | n, b :: rest => get n = .ok b ∧ Supplies get (n + 1) rest

@[simp] theorem supplies_nil (n : Nat) : Supplies get n [] := trivial

@[simp] theorem supplies_cons (n : Nat) (b : Byte) (rest : List Byte) :
    Supplies get n (b :: rest) ↔ get n = .ok b ∧ Supplies get (n + 1) rest := .rfl

theorem supplies_append (n : Nat) (l r : List Byte) :
    Supplies get n (l ++ r) ↔ Supplies get n l ∧ Supplies get (n + l.length) r := by
  induction l generalizing n with
  | nil => simp
  | cons b l ih => simp [ih, and_assoc, Nat.add_assoc, Nat.add_comm 1]

/-- Offset by offset. -/
theorem supplies_of_getElem {n : Nat} {bytes : List Byte}
    (h : ∀ k (hk : k < bytes.length), get (n + k) = .ok bytes[k]) : Supplies get n bytes := by
  induction bytes generalizing n with
  | nil => trivial
  | cons b rest ih =>
    refine ⟨h 0 (by simp), ih fun k hk => ?_⟩
    rw [Nat.add_assoc, Nat.add_comm 1]
    exact h (k + 1) (by simpa using hk)

/-- A byte string supplies its own bytes, and those alone. -/
theorem supplies_byteAt {bytes l : List Byte} {n : Nat} : Supplies (byteAt bytes) n l ↔ l <+: bytes.drop n := by
  induction l generalizing n with
  | nil => simp
  | cons b rest ih =>
    rw [supplies_cons, ih, byteAt]
    by_cases hn : n < bytes.length
    · rw [List.getElem?_eq_getElem hn, List.drop_eq_getElem_cons hn, List.cons_prefix_cons]
      simp [eq_comm]
    · have hlen : bytes.length ≤ n := Nat.le_of_not_lt hn
      simp [List.getElem?_eq_none hlen, List.drop_eq_nil_of_le hlen]

/-! ### What the decoder answers -/

/-- The operand bytes that a form takes, and the instruction it makes of them (30_encoding.md R101, R104 to R112). -/
inductive Form.Makes : Form → List Byte → Instr → Prop
  | inh {i : Instr} : Makes (.inh i) [] i
  | byte {f : Byte → Instr} {x : Byte} : Makes (.byte f) [x] (f x)
  | word {f : Word → Instr} {h l : Byte} : Makes (.word f) [h, l] (f (joinBytes h l))
  | byte2 {f : Byte → Byte → Instr} {x mm : Byte} : Makes (.byte2 f) [x, mm] (f x mm)
  | byte3 {f : Byte → Byte → Byte → Instr} {x mm rr : Byte} : Makes (.byte3 f) [x, mm, rr] (f x mm rr)

/-- A form takes its operand bytes one after the other and makes its instruction of them. -/
theorem assemble_eq_ok {n : Nat} {d : Decoded} :
    form.assemble get n = .ok d ↔
      ∃ ops i, form.Makes ops i ∧ Supplies get n ops ∧ d = .instr i (n + ops.length) := by
  constructor
  · intro h
    cases form with
    | inh i =>
      cases h
      exact ⟨_, _, .inh, trivial, rfl⟩
    | byte f =>
      obtain ⟨x, hx, h⟩ := bind_eq_ok.1 h
      cases h
      exact ⟨_, _, .byte, ⟨hx, trivial⟩, rfl⟩
    | word f =>
      obtain ⟨x, hx, h⟩ := bind_eq_ok.1 h
      obtain ⟨y, hy, h⟩ := bind_eq_ok.1 h
      cases h
      exact ⟨_, _, .word, ⟨hx, hy, trivial⟩, rfl⟩
    | byte2 f =>
      obtain ⟨x, hx, h⟩ := bind_eq_ok.1 h
      obtain ⟨mm, hmm, h⟩ := bind_eq_ok.1 h
      cases h
      exact ⟨_, _, .byte2, ⟨hx, hmm, trivial⟩, rfl⟩
    | byte3 f =>
      obtain ⟨x, hx, h⟩ := bind_eq_ok.1 h
      obtain ⟨mm, hmm, h⟩ := bind_eq_ok.1 h
      obtain ⟨rr, hrr, h⟩ := bind_eq_ok.1 h
      cases h
      exact ⟨_, _, .byte3, ⟨hx, hmm, hrr, trivial⟩, rfl⟩
  · rintro ⟨ops, i, hmakes, hops, rfl⟩
    cases hmakes <;> simp_all [Form.assemble]

/-- An error is that of reading some byte. -/
def FailsAsRead {α : Type} (get : Nat → Except ε Byte) (r : Except ε α) : Prop :=
  ∀ e, r = .error e → ∃ k, get k = .error e

theorem failsAsRead_ok {α : Type} (a : α) : FailsAsRead get (.ok a) := nofun

theorem failsAsRead_bind {α : Type} {f : Byte → Except ε α} (k : Nat) (h : ∀ x, FailsAsRead get (f x)) :
    FailsAsRead get (get k >>= f) := by
  intro e he
  cases hk : get k with
  | ok x => exact h x e (by rwa [hk] at he)
  | error e' => exact ⟨k, by rw [hk] at he ⊢; cases he; rfl⟩

theorem failsAsRead_assemble (form : Form) (n : Nat) : FailsAsRead get (form.assemble get n) := by
  cases form with
  | inh => exact failsAsRead_ok _
  | byte => exact failsAsRead_bind _ fun _ => failsAsRead_ok _
  | word | byte2 => exact failsAsRead_bind _ fun _ => failsAsRead_bind _ fun _ => failsAsRead_ok _
  | byte3 =>
    exact failsAsRead_bind _ fun _ => failsAsRead_bind _ fun _ => failsAsRead_bind _ fun _ => failsAsRead_ok _

/-- Decoding stops only where a byte cannot be read: an unlisted opcode is an answer. -/
theorem failsAsRead_decodeWith : FailsAsRead get (decodeWith get) := by
  refine failsAsRead_bind _ fun b => ?_
  split
  · refine failsAsRead_bind _ fun op => ?_
    split
    · exact failsAsRead_assemble _ _
    · exact failsAsRead_ok _
  · split
    · exact failsAsRead_assemble _ _
    · exact failsAsRead_ok _

/-- The bytes are an opcode string that a map lists and the operand bytes of its form, which make the instruction. -/
def Encodes (bytes : List Byte) (i : Instr) : Prop :=
  ∃ opc form ops, formOf opc = some form ∧ form.Makes ops i ∧ bytes = opc ++ ops

/-- The bytes are an opcode string that no map lists (30_encoding.md R118, R119). -/
def Unlisted : List Byte → Prop
  | [b] => prebytePage b = none ∧ formOf [b] = none
  | [pre, op] => prebytePage pre ≠ none ∧ formOf [pre, op] = none
  | _ => False

/-- Opcode strings are one byte that is no prebyte, or a prebyte and a byte. -/
theorem formOf_eq_some {opc : List Byte} (h : formOf opc = some form) :
    (∃ b, opc = [b] ∧ prebytePage b = none ∧ lookupForm pageOne b = some form) ∨
      ∃ pre page op, opc = [pre, op] ∧ prebytePage pre = some page ∧ lookupForm page op = some form := by
  match opc with
  | [] => cases h
  | [b] =>
    cases hb : prebytePage b with
    | none => exact .inl ⟨b, rfl, hb, formOf_single hb ▸ h⟩
    | some page => simp [formOf, hb] at h
  | [pre, op] =>
    cases hb : prebytePage pre with
    | none => simp [formOf, hb] at h
    | some page => exact .inr ⟨pre, page, op, rfl, hb, formOf_prebyte hb ▸ h⟩
  | _ :: _ :: _ :: _ => cases h

/-- What bytes decode to: an instruction that they encode, or themselves as an opcode string that no map lists. -/
def Decodes (bytes : List Byte) (d : Decoded) : Prop :=
  (∃ i, Encodes bytes i ∧ d = .instr i bytes.length) ∨ Unlisted bytes ∧ d = .illegal bytes

/-- A form that the maps list is assembled behind its opcode string. -/
theorem decodes_of_assemble {opc : List Byte} {d : Decoded} (hform : formOf opc = some form)
    (hopc : Supplies get 0 opc) (h : form.assemble get opc.length = .ok d) :
    ∃ bytes, Supplies get 0 bytes ∧ Decodes bytes d := by
  obtain ⟨ops, i, hmakes, hops, rfl⟩ := assemble_eq_ok.1 h
  refine ⟨opc ++ ops, (supplies_append 0 opc ops).2 ⟨hopc, by rwa [Nat.zero_add]⟩, .inl ⟨i, ?_, ?_⟩⟩
  · exact ⟨opc, form, ops, hform, hmakes, rfl⟩
  · rw [List.length_append]

/-- What the decoder answers is what the bytes at the start of its source decode to. -/
theorem decodes_of_decodeWith {d : Decoded} (h : decodeWith get = .ok d) :
    ∃ bytes, Supplies get 0 bytes ∧ Decodes bytes d := by
  obtain ⟨b, hb, h⟩ := bind_eq_ok.1 h
  split at h
  next page hpage =>
    obtain ⟨op, hop, h⟩ := bind_eq_ok.1 h
    split at h
    next form hform => exact decodes_of_assemble (opc := [b, op]) (formOf_prebyte hpage ▸ hform) ⟨hb, hop, trivial⟩ h
    next hnone =>
      cases h
      exact ⟨[b, op], ⟨hb, hop, trivial⟩, .inr ⟨⟨by simp [hpage], formOf_prebyte hpage ▸ hnone⟩, rfl⟩⟩
  next hpage =>
    split at h
    next form hform => exact decodes_of_assemble (opc := [b]) (formOf_single hpage ▸ hform) ⟨hb, trivial⟩ h
    next hnone =>
      cases h
      exact ⟨[b], ⟨hb, trivial⟩, .inr ⟨⟨hpage, formOf_single hpage ▸ hnone⟩, rfl⟩⟩

/-- Behind a listed opcode string the decoder assembles the form. -/
theorem decodeWith_of_formOf {opc : List Byte} (hform : formOf opc = some form) (hopc : Supplies get 0 opc) :
    decodeWith get = form.assemble get opc.length := by
  obtain ⟨b, rfl, hpage, hlookup⟩ | ⟨pre, page, op, rfl, hpage, hlookup⟩ := formOf_eq_some hform
  · obtain ⟨hb, _⟩ := hopc
    simp [decodeWith, hb, hpage, hlookup]
  · obtain ⟨hpre, hop, _⟩ := hopc
    simp only [Nat.zero_add] at hop
    simp [decodeWith, hpre, hop, hpage, hlookup]

/-- The decoder answers what the bytes at the start of its source decode to. -/
theorem decodeWith_of_decodes {bytes : List Byte} {d : Decoded} (hget : Supplies get 0 bytes) (h : Decodes bytes d) :
    decodeWith get = .ok d := by
  obtain ⟨i, ⟨opc, form, ops, hform, hmakes, rfl⟩, rfl⟩ | ⟨hun, rfl⟩ := h
  · obtain ⟨hopc, hops⟩ := (supplies_append 0 opc ops).1 hget
    rw [decodeWith_of_formOf hform hopc, assemble_eq_ok]
    exact ⟨ops, i, hmakes, by rwa [Nat.zero_add] at hops, by rw [List.length_append]⟩
  · match bytes, hun with
    | [b], ⟨hpage, hnone⟩ =>
      obtain ⟨hb, _⟩ := hget
      rw [formOf_single hpage] at hnone
      simp [decodeWith, hb, hpage, hnone]
    | [pre, op], ⟨hpage, hnone⟩ =>
      obtain ⟨page, hpage⟩ := Option.ne_none_iff_exists'.1 hpage
      obtain ⟨hpre, hop, _⟩ := hget
      rw [formOf_prebyte hpage] at hnone
      simp only [Nat.zero_add] at hop
      simp [decodeWith, hpre, hop, hpage, hnone]

/-- Decoding a byte string finds an instruction exactly when the bytes at its start encode one; its length is theirs. -/
theorem decode_eq_ok {bytes : List Byte} {n : Nat} :
    decode bytes = .ok (i, n) ↔ ∃ p, p <+: bytes ∧ Encodes p i ∧ n = p.length := by
  have hdecode : decode bytes = .ok (i, n) ↔ decodeWith (byteAt bytes) = .ok (.instr i n) := by
    unfold decode
    split <;> simp_all
  rw [hdecode]
  constructor
  · intro h
    obtain ⟨p, hp, ⟨j, hj, hd⟩ | ⟨_, hd⟩⟩ := decodes_of_decodeWith h
    · cases hd
      exact ⟨p, supplies_byteAt.1 hp, hj, rfl⟩
    · cases hd
  · rintro ⟨p, hp, hi, rfl⟩
    exact decodeWith_of_decodes (supplies_byteAt.2 hp) (.inl ⟨i, hi, rfl⟩)

/-- Decoding a byte string rejects an opcode string exactly when it stands at the start and no map lists it. -/
theorem decode_eq_illegal {bytes opc : List Byte} :
    decode bytes = .error (.illegalOpcode opc) ↔ opc <+: bytes ∧ Unlisted opc := by
  have hread : decodeWith (byteAt bytes) ≠ .error (.illegalOpcode opc) := by
    intro h
    obtain ⟨k, hk⟩ := failsAsRead_decodeWith _ h
    unfold byteAt at hk
    split at hk <;> cases hk
  have hdecode : decode bytes = .error (.illegalOpcode opc) ↔ decodeWith (byteAt bytes) = .ok (.illegal opc) := by
    unfold decode
    split <;> simp_all
  rw [hdecode]
  constructor
  · intro h
    obtain ⟨p, hp, ⟨j, hj, hd⟩ | ⟨hun, hd⟩⟩ := decodes_of_decodeWith h
    · cases hd
    · cases hd
      exact ⟨supplies_byteAt.1 hp, hun⟩
  · rintro ⟨hp, hun⟩
    exact decodeWith_of_decodes (supplies_byteAt.2 hp) (.inr ⟨hun, rfl⟩)

end Sys2Proof
end

section
/-! PROOF. Encoding: the encoder writes what the maps list, form by form, and the maps list what the encoder writes
(30_encoding.md R101, R113 to R116, R122). -/

namespace Sys2Proof

open Machine

variable {opc imm dir ext x y : List Byte} {i : Instr} {form : Form}

/-! ### The shapes of the encoder -/

theorem encodes_inh (h : formOf opc = some (.inh i)) : Encodes opc i :=
  ⟨opc, _, [], h, .inh, (List.append_nil opc).symm⟩

theorem encodes_byte {f : Byte → Instr} (h : formOf opc = some (.byte f)) (b : Byte) : Encodes (opc ++ [b]) (f b) :=
  ⟨opc, _, _, h, .byte, rfl⟩

/-- A word operand stands high byte first (30_encoding.md R105). -/
theorem encodes_word {f : Word → Instr} (h : formOf opc = some (.word f)) (w : Word) :
    Encodes (opc ++ [hiByte w, loByte w]) (f w) :=
  ⟨opc, _, _, h, by simpa using Form.Makes.word (f := f) (h := hiByte w) (l := loByte w), rfl⟩

theorem encodes_byte2 {f : Byte → Byte → Instr} (h : formOf opc = some (.byte2 f)) (b mm : Byte) :
    Encodes (opc ++ [b, mm]) (f b mm) :=
  ⟨opc, _, _, h, .byte2, rfl⟩

theorem encodes_byte3 {f : Byte → Byte → Byte → Instr} (h : formOf opc = some (.byte3 f)) (b mm rr : Byte) :
    Encodes (opc ++ [b, mm, rr]) (f b mm rr) :=
  ⟨opc, _, _, h, .byte3, rfl⟩

theorem encodes_branch {f : Byte → Instr} {op : Byte} (rr : Byte) (h : formOf [op] = some (.byte f)) :
    Encodes [op, rr] (f rr) := encodes_byte h rr

theorem encodes_code4 {f : Addr → Instr} (m : Addr) (hdir : formOf dir = some (.byte fun b => f (.dir b)))
    (hext : formOf ext = some (.word fun w => f (.ext w))) (hx : formOf x = some (.byte fun b => f (.indX b)))
    (hy : formOf y = some (.byte fun b => f (.indY b))) : Encodes (m.code4 dir ext x y) (f m) := by
  cases m with
  | dir b => exact encodes_byte hdir b
  | ext w => exact encodes_word hext w
  | indX b => exact encodes_byte hx b
  | indY b => exact encodes_byte hy b

theorem encodes_code3 {f : Addr → Instr} {m : Addr} (hm : m.notDirect = true)
    (hext : formOf ext = some (.word fun w => f (.ext w))) (hx : formOf x = some (.byte fun b => f (.indX b)))
    (hy : formOf y = some (.byte fun b => f (.indY b))) : Encodes (m.code3 ext x y) (f m) := by
  cases m with
  | dir b => cases hm
  | ext w => exact encodes_word hext w
  | indX b => exact encodes_byte hx b
  | indY b => exact encodes_byte hy b

theorem encodes_codeBit2 {f : Addr → Byte → Instr} {m : Addr} (mm : Byte) (hm : m.notExtended = true)
    (hdir : formOf dir = some (.byte2 fun b => f (.dir b))) (hx : formOf x = some (.byte2 fun b => f (.indX b)))
    (hy : formOf y = some (.byte2 fun b => f (.indY b))) : Encodes (m.codeBit dir x y [mm]) (f m mm) := by
  cases m with
  | dir b => exact encodes_byte2 hdir b mm
  | ext w => cases hm
  | indX b => exact encodes_byte2 hx b mm
  | indY b => exact encodes_byte2 hy b mm

theorem encodes_codeBit3 {f : Addr → Byte → Byte → Instr} {m : Addr} (mm rr : Byte) (hm : m.notExtended = true)
    (hdir : formOf dir = some (.byte3 fun b => f (.dir b))) (hx : formOf x = some (.byte3 fun b => f (.indX b)))
    (hy : formOf y = some (.byte3 fun b => f (.indY b))) : Encodes (m.codeBit dir x y [mm, rr]) (f m mm rr) := by
  cases m with
  | dir b => exact encodes_byte3 hdir b mm rr
  | ext w => cases hm
  | indX b => exact encodes_byte3 hx b mm rr
  | indY b => exact encodes_byte3 hy b mm rr

theorem encodes_src8 {f : Src8 → Instr} (src : Src8) (himm : formOf imm = some (.byte fun b => f (.imm b)))
    (hdir : formOf dir = some (.byte fun b => f (.mem (.dir b))))
    (hext : formOf ext = some (.word fun w => f (.mem (.ext w))))
    (hx : formOf x = some (.byte fun b => f (.mem (.indX b))))
    (hy : formOf y = some (.byte fun b => f (.mem (.indY b)))) : Encodes (src.code imm dir ext x y) (f src) := by
  cases src with
  | imm b => exact encodes_byte himm b
  | mem m => exact encodes_code4 (f := fun m => f (.mem m)) m hdir hext hx hy

theorem encodes_src16 {f : Src16 → Instr} (src : Src16) (himm : formOf imm = some (.word fun w => f (.imm w)))
    (hdir : formOf dir = some (.byte fun b => f (.mem (.dir b))))
    (hext : formOf ext = some (.word fun w => f (.mem (.ext w))))
    (hx : formOf x = some (.byte fun b => f (.mem (.indX b))))
    (hy : formOf y = some (.byte fun b => f (.mem (.indY b)))) : Encodes (src.code imm dir ext x y) (f src) := by
  cases src with
  | imm w => exact encodes_word himm w
  | mem m => exact encodes_code4 (f := fun m => f (.mem m)) m hdir hext hx hy

/-- The encoder writes an opcode string that the maps list and its operand bytes; they list it under the first name. -/
theorem encodes_encode (h : i.WF) : Encodes (encode i) i.firstName := by
  cases i with
  | ldaa src | ldab src | adca src | adcb src | adda src | addb src | sbca src | sbcb src | suba src | subb src
  | cmpa src | cmpb src | anda src | andb src | bita src | bitb src | eora src | eorb src | oraa src | orab src =>
    exact encodes_src8 src rfl rfl rfl rfl rfl
  | ldd src | lds src | ldx src | ldy src | addd src | subd src | cpd src | cpx src | cpy src =>
    exact encodes_src16 src rfl rfl rfl rfl rfl
  | staa m | stab m | std m | sts m | stx m | sty m | jsr m => exact encodes_code4 m rfl rfl rfl rfl
  | clr m | neg m | inc m | dec m | tst m | com m | asl m | asr m | lsl m | lsr m | rol m | ror m | jmp m =>
    exact encodes_code3 h rfl rfl rfl
  | bclr m mm | bset m mm => exact encodes_codeBit2 mm h rfl rfl rfl
  | brclr m mm rr | brset m mm rr => exact encodes_codeBit3 mm rr h rfl rfl rfl
  | bcc rr | bcs rr | beq rr | bge rr | bgt rr | bhi rr | bhs rr | ble rr | blo rr | bls rr | blt rr | bmi rr | bne rr
  | bpl rr | bra rr | brn rr | bvc rr | bvs rr | bsr rr => exact encodes_branch rr rfl
  | tab | tba | tsx | tsy | txs | tys | xgdx | xgdy | clra | clrb | psha | pshb | pshx | pshy | pula | pulb | pulx
  | puly | des | ins | aba | abx | aby | sba | cba | nega | negb | inca | incb | deca | decb | inx | iny | dex | dey
  | tsta | tstb | daa | mul | idiv | fdiv | coma | comb | asla | aslb | asld | asra | asrb | lsla | lslb | lsld | lsra
  | lsrb | lsrd | rola | rolb | rora | rorb | rts | clc | cli | clv | sec | sei | sev | tap | tpa | nop | swi | rti
  | wai | stop | test => exact encodes_inh rfl

/-- Settles O1: the encoder's bytes are those of a listed form, and what stands behind them is not read. -/
theorem decodeOfEncode : Obligations.DecodeOfEncode := fun i rest h =>
  decode_eq_ok.2 ⟨encode i, List.prefix_append _ rest, encodes_encode h, rfl⟩

end Sys2Proof
end

section
/-! PROOF. Maps: each entry of the four opcode maps is the encoding of the instructions it makes, and the bytes that the
maps leave out are the illegal ones (30_encoding.md R113 to R119). -/

namespace Sys2Proof

open Machine

variable {opc pre bytes : List Byte} {i : Instr} {form : Form}

/-- The bytes are the encoding of a well-formed instruction that is its own first name. -/
structure EncodesFirst (bytes : List Byte) (i : Instr) : Prop where
  wf : i.WF
  firstName : i.firstName = i
  encode : encode i = bytes

/-- Behind its opcode string a form makes instructions that encode to it, whatever the operands. -/
def Form.EncodesAt (opc : List Byte) : Form → Prop
  | .inh i => EncodesFirst opc i
  | .byte f => ∀ b, EncodesFirst (opc ++ [b]) (f b)
  | .word f => ∀ w, EncodesFirst (opc ++ [hiByte w, loByte w]) (f w)
  | .byte2 f => ∀ b mm, EncodesFirst (opc ++ [b, mm]) (f b mm)
  | .byte3 f => ∀ b mm rr, EncodesFirst (opc ++ [b, mm, rr]) (f b mm rr)

theorem encodesFirst_of_makes {ops : List Byte} (h : form.EncodesAt opc) (hmakes : form.Makes ops i) :
    EncodesFirst (opc ++ ops) i := by
  cases hmakes with
  | inh => exact (List.append_nil opc).symm ▸ h
  | byte => exact h _
  | word => simpa using h (joinBytes _ _)
  | byte2 => exact h _ _
  | byte3 => exact h _ _ _

/-! ### Every entry of the maps -/

/-- Every entry of a map encodes what it makes, behind the map's prebytes. -/
def EncodesEntries (pre : List Byte) (page : List (Byte × Form)) : Prop := ∀ e ∈ page, e.2.EncodesAt (pre ++ [e.1])

theorem encodesEntries_cons {e : Byte × Form} {page : List (Byte × Form)} :
    EncodesEntries pre (e :: page) ↔ e.2.EncodesAt (pre ++ [e.1]) ∧ EncodesEntries pre page := List.forall_mem_cons

theorem encodesEntries_nil : EncodesEntries pre [] := nofun

theorem encodesEntries_append {l r : List (Byte × Form)} :
    EncodesEntries pre (l ++ r) ↔ EncodesEntries pre l ∧ EncodesEntries pre r := List.forall_mem_append

/-- Page 1, row by row (30_encoding.md R113). -/
theorem encodesEntries_pageOneRow (n : Nat) : EncodesEntries [] (pageOneRow n) := by
  unfold pageOneRow
  split
  case h_17 => exact encodesEntries_nil
  all_goals
    simp only [encodesEntries_cons, encodesEntries_nil, Form.EncodesAt, and_true, pageOneRow0, pageOneRow1, pageOneRow2,
      pageOneRow3, pageOneRow4, pageOneRow5, pageOneRow6, pageOneRow7, pageOneRow8, pageOneRow9, pageOneRowA,
      pageOneRowB, pageOneRowC, pageOneRowD, pageOneRowE, pageOneRowF]
    and_intros <;> intros <;> exact ⟨rfl, rfl, rfl⟩

/-- Page 2 (30_encoding.md R114). -/
theorem encodesEntries_pageTwo : EncodesEntries [0x18] pageTwo := by
  simp only [pageTwo, encodesEntries_append, pageTwoLow, pageTwoEight, pageTwoHigh, encodesEntries_cons,
    encodesEntries_nil, Form.EncodesAt, and_true]
  and_intros <;> intros <;> exact ⟨rfl, rfl, rfl⟩

/-- Page 3 (30_encoding.md R115). -/
theorem encodesEntries_pageThree : EncodesEntries [0x1A] pageThree := by
  simp only [pageThree, encodesEntries_cons, encodesEntries_nil, Form.EncodesAt, and_true]
  and_intros <;> intros <;> exact ⟨rfl, rfl, rfl⟩

/-- Page 4 (30_encoding.md R116). -/
theorem encodesEntries_pageFour : EncodesEntries [0xCD] pageFour := by
  simp only [pageFour, encodesEntries_cons, encodesEntries_nil, Form.EncodesAt, and_true]
  and_intros <;> intros <;> exact ⟨rfl, rfl, rfl⟩

/-- The prebytes and the maps they select (30_encoding.md R103). -/
theorem prebytePage_eq_some {b : Byte} {page : List (Byte × Form)} (h : prebytePage b = some page) :
    b = 0x18 ∧ page = pageTwo ∨ b = 0x1A ∧ page = pageThree ∨ b = 0xCD ∧ page = pageFour := by
  unfold prebytePage at h
  split at h
  · exact .inl ⟨‹_›, (Option.some.inj h).symm⟩
  split at h
  · exact .inr (.inl ⟨‹_›, (Option.some.inj h).symm⟩)
  split at h
  · exact .inr (.inr ⟨‹_›, (Option.some.inj h).symm⟩)
  · cases h

/-- Whatever form the maps list for an opcode string, its instructions encode to that string and the operands. -/
theorem encodesAt_of_formOf (h : formOf opc = some form) : form.EncodesAt opc := by
  obtain ⟨b, rfl, _, hlookup⟩ | ⟨pre, page, op, rfl, hpage, hlookup⟩ := formOf_eq_some h
  · rw [lookupForm_pageOne] at hlookup
    exact encodesEntries_pageOneRow _ _ (mem_of_lookupForm hlookup)
  · have hmem : (op, form) ∈ page := mem_of_lookupForm hlookup
    obtain ⟨rfl, rfl⟩ | ⟨rfl, rfl⟩ | ⟨rfl, rfl⟩ := prebytePage_eq_some hpage
    · exact encodesEntries_pageTwo _ hmem
    · exact encodesEntries_pageThree _ hmem
    · exact encodesEntries_pageFour _ hmem

/-- What the maps make of bytes encodes to those bytes. -/
theorem encodesFirst_of_encodes (h : Encodes bytes i) : EncodesFirst bytes i := by
  obtain ⟨opc, form, ops, hform, hmakes, rfl⟩ := h
  exact encodesFirst_of_makes (encodesAt_of_formOf hform) hmakes

/-- Settles O2: the bytes at the start that decode are listed, and each listed entry is the encoding of what it makes. -/
theorem encodeOfDecode : Obligations.EncodeOfDecode := by
  intro bytes i n h
  obtain ⟨p, hp, hi, rfl⟩ := decode_eq_ok.1 h
  obtain ⟨hwf, hfirst, rfl⟩ := encodesFirst_of_encodes hi
  exact ⟨hwf, hfirst, rfl, List.prefix_iff_eq_take.1 hp⟩

/-! ### The bytes that the maps leave out -/

/-- The 20 opcode bytes that page 1 leaves out and that are no prebytes (30_encoding.md R118). -/
theorem unlisted_single_iff : ∀ b : Byte, Unlisted [b] ↔ b ∈
    ([0x41, 0x42, 0x45, 0x4B, 0x4E, 0x51, 0x52, 0x55, 0x5B, 0x5E, 0x61, 0x62, 0x65, 0x6B, 0x71, 0x72, 0x75, 0x7B, 0x87,
      0xC7] : List Byte) := by
  simp only [Unlisted]
  decide

/-- After a prebyte the bytes left out are those that are no key of its map (30_encoding.md R119). -/
theorem unlisted_prebyte_iff {pre op : Byte} {page : List (Byte × Form)} (h : prebytePage pre = some page) :
    Unlisted [pre, op] ↔ op ∉ page.map (·.1) := by
  rw [Unlisted, formOf_prebyte h, h, lookupForm_eq_none]
  simp

/-- Settles O3: an opcode string is rejected when it stands at the start and is unlisted. -/
theorem illegalOpcodes : Obligations.IllegalOpcodes := by
  intro b rest
  have hsingle : [b] <+: b :: rest := List.prefix_append [b] rest
  have hpair (pre : Byte) : [pre, b] <+: pre :: b :: rest := List.prefix_append [pre, b] rest
  simp only [decode_eq_illegal, hsingle, hpair, true_and]
  exact ⟨unlisted_single_iff b, unlisted_prebyte_iff (page := pageTwo) rfl,
    unlisted_prebyte_iff (page := pageThree) rfl, unlisted_prebyte_iff (page := pageFour) rfl⟩

end Sys2Proof
end

section
/-! PROOF. Fetch: what a step does with the bytes at PC (30_encoding.md R102): the instruction that they encode, or the
fault or trap of an unlisted opcode (R118, 60_exceptions.md R422). -/

namespace Sys2Proof.Machine

open Config

variable {s : State} {i : Instr}

/-- Memory that holds an instruction's encoding at PC fetches it under its first name (30_encoding.md R122). -/
theorem fetch_of_holds (hwf : i.WF) (h : s.Holds i) :
    s.fetch = .ok (.instr i.firstName (encode i).length) := by
  refine decodeWith_of_decodes (supplies_of_getElem fun k hk => ?_) (.inl ⟨_, encodes_encode hwf, rfl⟩)
  rw [Nat.zero_add]
  exact h k hk

/-- Settles O7: the fetch finds the instruction, and the step runs what is fetched. -/
theorem stepRunsEncodedInstruction : Obligations.StepRunsEncodedInstruction := fun s _ hruns hwf hholds =>
  stepRunsDecodedInstruction s _ _ hruns (fetch_of_holds hwf hholds)

/-! ### The entry of 60_exceptions.md R430 -/

/-- Entering a handler leaves the frame as it stands: it reads the vector and sets masks, PC, IDelay, the run state. -/
theorem stacked_handled {src : Source} {handler : Word} (h : s.FrameInRam) :
    s.Stacked (s.framed.handled src handler) := by
  have hstack : s.Stacked s.framed := framed_stacked h
  have hread (x : Word) (hx : s.kind x ≠ .device) : (s.framed.handled src handler).read8 x = s.framed.read8 x :=
    (accessed_handled s.framed src handler []).read8 (by simp [State.handled]) (by simp) (by rwa [framed_kind])
  have hram (x : Word) (hx : x ∈ s.frameAddresses) : (s.framed.handled src handler).read8 x = s.framed.read8 x :=
    hread x (by simp [h x hx])
  refine ⟨by simp [State.handled], ?_, ?_, ?_, ?_, ?_, ?_, ?_, ?_, ?_, hstack.storage, fun x hx hk =>
    (hread x hk).trans (hstack.rest x hx hk)⟩
  all_goals rw [hram _ (by simp [State.frameAddresses])]
  exacts [hstack.pcLow, hstack.pcHigh, hstack.iyLow, hstack.iyHigh, hstack.ixLow, hstack.ixHigh, hstack.a, hstack.b,
    hstack.ccr]

/-- An entry whose frame goes to RAM and whose vector lies outside it. -/
theorem entered_handled {src : Source} {handler : Word} (h : s.FrameInRam) :
    s.Entered (s.framed.handled src handler) src handler where
  stacked := stacked_handled h
  same := by constructor <;> simp [State.handled]
  pc := rfl
  ccr := by simp [State.handled]
  running := rfl
  delay := rfl

/-- The vector of a handler is read past the frame. -/
theorem takeException_of_handlerAt {src : Source} {handler : Word} (h : s.FrameInRam) (hv : s.HandlerAt src handler) :
    s.takeException src = .ok (s.framed.handled src handler) := by
  obtain ⟨hlow, hhigh, hread⟩ := hv
  exact takeException_eq_ok.2 ⟨handler, (framed_read16 h hlow hhigh).trans hread, rfl⟩

/-- An instruction step whose fetch finds an unlisted opcode. -/
theorem step_of_fetch_illegal {bytes : List Byte} (hruns : s.RunsNext) (h : s.present.fetch = .ok (.illegal bytes)) :
    step s = s.present.illegalOpcodeStep bytes := by
  simp only [step_of_runsNext hruns, State.instrStep, h]

/-- Settles O8: the policy decides between the fault and the entry of the illegal opcode trap. -/
theorem illegalOpcodeStep : Obligations.IllegalOpcodeStep := by
  intro s bytes hruns hfetch
  rw [step_of_fetch_illegal hruns hfetch, State.illegalOpcodeStep, present_params]
  refine ⟨fun hpolicy => ?_, fun hpolicy handler => ?_⟩
  · rw [hpolicy, present_pc]
  · rw [hpolicy]
    refine ⟨fun hram hv => ⟨_, ?_, entered_handled hram⟩, fun hread => ?_⟩
    · exact finish_eq_next.2 (takeException_of_handlerAt hram hv)
    · refine finish_eq_next.2 (takeException_eq_ok.2 ⟨handler, ?_, rfl⟩)
      simpa [State.afterFetch] using hread

end Sys2Proof.Machine
end

section
/-! PROOF. Operands: the addressing modes (30_encoding.md R104 to R109), over the natural numbers. -/

namespace Sys2Proof.Machine

variable {s : State}

/-- A direct address is the page 0 address of its byte (30_encoding.md R106). -/
theorem ea_dir_toNat (b : Byte) : (s.ea (.dir b)).toNat = b.toNat := by simp [State.ea]

@[simp] theorem zext_toNat (b : Byte) : (zext b).toNat = b.toNat :=
  BitVec.toNat_setWidth_of_le (by decide)

/-- An offset is unsigned, and the sum wraps (30_encoding.md R108). -/
theorem ea_indX_toNat (b : Byte) : (s.ea (.indX b)).toNat = (s.ix.toNat + b.toNat) % 65536 := by
  rw [State.ea, BitVec.toNat_add, zext_toNat]

/-- An offset is unsigned, and the sum wraps (30_encoding.md R109). -/
theorem ea_indY_toNat (b : Byte) : (s.ea (.indY b)).toNat = (s.iy.toNat + b.toNat) % 65536 := by
  rw [State.ea, BitVec.toNat_add, zext_toNat]

/-- Settles O28: each clause is the rule of its addressing mode, or of a read. -/
theorem operandForms : Obligations.OperandForms := by
  refine fun s b w m => ⟨ea_dir_toNat b, rfl, ea_indX_toNat b, ea_indY_toNat b, opnd8_imm b, opnd16_imm w, opnd8_mem m,
    fun h l hh hl => ⟨joinBytes h l, ?_, joinBytes_toNat h l⟩, afterOpnd8_imm b, afterOpnd16_imm w, afterOpnd8_mem m,
    afterOpnd16_mem m, s.afterRead_storage, fun hk => ⟨read8_device hk, s.afterRead_device hk⟩⟩
  rw [opnd16_mem]
  exact read16_eq_ok.2 ⟨h, l, hh, hl, rfl⟩

end Sys2Proof.Machine
end

section
/-! PROOF. Timing: the Bytes and Cycle columns over every form of Table 10-1 (70_reset_and_hazards.md R477). -/

namespace Sys2Proof

open Machine

variable {α : Type} {p : α → Bool} {imm dir ext x y : α} {i : Instr}

/-! ### Choosing by the form: what holds of every choice holds of the one made -/

theorem any_pick4 (m : Addr) (hdir : p dir = true) (hext : p ext = true) (hx : p x = true) (hy : p y = true) :
    (m.pick4 dir ext x y).any p = true := by
  cases m <;> assumption

theorem any_pick3 {m : Addr} (hm : m.notDirect = true) (hext : p ext = true) (hx : p x = true) (hy : p y = true) :
    (m.pick3 ext x y).any p = true := by
  cases m <;> assumption

theorem any_pickBit {m : Addr} (hm : m.notExtended = true) (hdir : p dir = true) (hx : p x = true) (hy : p y = true) :
    (m.pickBit dir x y).any p = true := by
  cases m <;> assumption

theorem any_pick_src8 (src : Src8) (himm : p imm = true) (hdir : p dir = true) (hext : p ext = true) (hx : p x = true)
    (hy : p y = true) : (src.pick imm dir ext x y).any p = true := by
  cases src with
  | imm => exact himm
  | mem m => exact any_pick4 m hdir hext hx hy

theorem any_pick_src16 (src : Src16) (himm : p imm = true) (hdir : p dir = true) (hext : p ext = true) (hx : p x = true)
    (hy : p y = true) : (src.pick imm dir ext x y).any p = true := by
  cases src with
  | imm => exact himm
  | mem m => exact any_pick4 m hdir hext hx hy

/-- The one-operand memory instructions have no direct row (30_encoding.md R112). -/
theorem pick3_eq_none {m : Addr} (hm : ¬ m.notDirect = true) : m.pick3 ext x y = none := by
  cases m with
  | dir => rfl
  | ext | indX | indY => exact absurd rfl hm

/-- The bit instructions have no extended row (30_encoding.md R112). -/
theorem pickBit_eq_none {m : Addr} (hm : ¬ m.notExtended = true) : m.pickBit dir x y = none := by
  cases m with
  | ext => rfl
  | dir | indX | indY => exact absurd rfl hm

/-! ### The rows -/

/-- The row of an instruction other than the divisions, WAI and TEST: 1 to 5 bytes, and a constant count of cycles below
41 (70_reset_and_hazards.md R477). -/
def Machine.Timing.ordinary (k : Timing) : Bool :=
  decide (1 ≤ k.bytes) && decide (k.bytes ≤ 5) &&
    match k.cost with
    | .cycles n => decide (n ∈ [2, 3, 4, 5, 6, 7, 8, 10, 12, 14])
    | .waits | .endless => false

theorem ordinary_iff {k : Timing} : k.ordinary = true ↔
    1 ≤ k.bytes ∧ k.bytes ≤ 5 ∧ ∃ n, k.cost = .cycles n ∧ n ∈ [2, 3, 4, 5, 6, 7, 8, 10, 12, 14] := by
  unfold Timing.ordinary
  cases k.cost <;> simp [and_assoc]

/-- Every form but the divisions, WAI and TEST has an ordinary row. -/
theorem timing_ordinary (hwf : i.WF) (hi : i ∉ [.idiv, .fdiv, .wai, .test]) : i.timing.any Timing.ordinary = true := by
  cases i with
  | idiv | fdiv | wai | test => simp at hi
  | ldaa src | ldab src | adca src | adcb src | adda src | addb src | sbca src | sbcb src | suba src | subb src
  | cmpa src | cmpb src | anda src | andb src | bita src | bitb src | eora src | eorb src | oraa src | orab src =>
    exact any_pick_src8 src rfl rfl rfl rfl rfl
  | ldd src | lds src | ldx src | ldy src | addd src | subd src | cpd src | cpx src | cpy src =>
    exact any_pick_src16 src rfl rfl rfl rfl rfl
  | staa m | stab m | std m | sts m | stx m | sty m | jsr m => exact any_pick4 m rfl rfl rfl rfl
  | clr m | neg m | inc m | dec m | tst m | com m | asl m | asr m | lsl m | lsr m | rol m | ror m | jmp m =>
    exact any_pick3 hwf rfl rfl rfl
  | bclr m mm | bset m mm | brclr m mm rr | brset m mm rr => exact any_pickBit hwf rfl rfl rfl
  | bcc | bcs | beq | bge | bgt | bhi | bhs | ble | blo | bls | blt | bmi | bne | bpl | bra | brn | bvc | bvs | bsr
  | tab | tba | tsx | tsy | txs | tys | xgdx | xgdy | clra | clrb | psha | pshb | pshx | pshy | pula | pulb | pulx
  | puly | des | ins | aba | abx | aby | sba | cba | nega | negb | inca | incb | deca | decb | inx | iny | dex | dey
  | tsta | tstb | daa | mul | coma | comb | asla | aslb | asld | asra | asrb | lsla | lslb | lsld | lsra | lsrb | lsrd
  | rola | rolb | rora | rorb | rts | clc | cli | clv | sec | sei | sev | tap | tpa | nop | swi | rti | stop => rfl

/-- A shape that is no form has no row. -/
theorem timing_eq_none (hwf : ¬ i.WF) : i.timing = none := by
  cases i with
  | clr m | neg m | inc m | dec m | tst m | com m | asl m | asr m | lsl m | lsr m | rol m | ror m | jmp m =>
    exact pick3_eq_none hwf
  | bclr m mm | bset m mm | brclr m mm rr | brset m mm rr => exact pickBit_eq_none hwf
  | _ => exact absurd rfl hwf

/-- Settles O5: the ordinary rows, those of IDIV and FDIV with 41 cycles, and WAI and TEST. -/
theorem cycleColumn : Obligations.CycleColumn := by
  refine fun i => ⟨fun hwf => ?_, timing_eq_none⟩
  by_cases hi : i ∈ [.idiv, .fdiv, .wai, .test]
  · simp only [List.mem_cons, List.not_mem_nil, or_false] at hi
    obtain rfl | rfl | rfl | rfl := hi
    · exact ⟨_, rfl, by decide, by decide, .inl ⟨41, rfl, by decide, by simp⟩⟩
    · exact ⟨_, rfl, by decide, by decide, .inl ⟨41, rfl, by decide, by simp⟩⟩
    · exact ⟨_, rfl, by decide, by decide, .inr (.inl ⟨rfl, rfl⟩)⟩
    · exact ⟨_, rfl, by decide, by decide, .inr (.inr ⟨rfl, rfl⟩)⟩
  · obtain ⟨k, hk, hord⟩ := (Option.any_eq_true _ _).1 (timing_ordinary hwf hi)
    obtain ⟨hmin, hmax, n, hcost, hn⟩ := ordinary_iff.1 hord
    refine ⟨k, hk, hmin, hmax, .inl ⟨n, hcost, ?_, ?_⟩⟩
    · exact List.mem_of_mem_dropLast (l := [2, 3, 4, 5, 6, 7, 8, 10, 12, 14, 41]) hn
    · have h41 : n ≠ 41 := by rintro rfl; simp at hn
      simp only [List.mem_cons, not_or] at hi
      obtain ⟨hidiv, hfdiv, _⟩ := hi
      simp [h41, hidiv, hfdiv]

end Sys2Proof
end

section
/-! PROOF. Words: byte strings of the encoding tables (30_encoding.md R113 to R116). -/

namespace Sys2Proof

variable {bytes : List Byte} {i : Instr}

/-- The encoding of an instruction under its first name decodes to that instruction, with nothing left over. -/
theorem decode_of_encodesFirst (h : EncodesFirst bytes i) : decode bytes = .ok (i, bytes.length) := by
  obtain ⟨hwf, hfirst, rfl⟩ := h
  simpa [hfirst] using decodeOfEncode i [] hwf

/-- Settles O4: each byte string is the encoding of its instruction. -/
theorem specWordsDecode : Obligations.SpecWordsDecode :=
  ⟨decode_of_encodesFirst ⟨rfl, rfl, rfl⟩, decode_of_encodesFirst ⟨rfl, rfl, rfl⟩,
    decode_of_encodesFirst ⟨rfl, rfl, rfl⟩, decode_of_encodesFirst ⟨rfl, rfl, rfl⟩,
    decode_of_encodesFirst ⟨rfl, rfl, rfl⟩, decode_of_encodesFirst ⟨rfl, rfl, rfl⟩⟩

end Sys2Proof
end

section
/-! PROOF. Moves: loads, stores, transfers, exchanges, clears and tests (40_load_store_transfer.md), each an instance of its
shape, with the flags of 10_state.md R43 over the natural numbers. -/

namespace Sys2Proof.Machine

variable {s : State}

/-! ### The flags of a value moved -/

/-- N is the sign bit, the upper half of the words; Z is the word 0 (10_state.md R38). -/
theorem nz16_eq_signZero16 (r : Word) (f : CCR) : nz16 r f = Spec.signZero16 r f := by
  have hz : (r == 0) = decide (r.toNat = 0) := by
    rw [Bool.eq_iff_iff, beq_iff_eq, decide_eq_true_eq]
    exact BitVec.toNat_inj.symm
  rw [nz16, BitVec.msb_eq_decide, hz]
  rfl

/-- LOGIC8 over the natural numbers (10_state.md R43). -/
theorem logic8_eq_moved8 (r : Byte) (f : CCR) : logic8 r f = Spec.moved8 r f := by
  rw [logic8, nz8_eq_signZero8, Spec.moved8]

/-- LOGIC16 over the natural numbers (10_state.md R43). -/
theorem logic16_eq_moved16 (r : Word) (f : CCR) : logic16 r f = Spec.moved16 r f := by
  rw [logic16, nz16_eq_signZero16, Spec.moved16]

/-- TST's flags over the natural numbers (42_arithmetic.md R284). -/
theorem tst8_eq_signZero8 (r : Byte) (f : CCR) : tst8 r f = { Spec.signZero8 r f with v := false, c := false } := by
  rw [tst8, nz8_eq_signZero8]

/-! ### Loads -/

/-- A load of an accumulator from a readable operand. -/
theorem finish_loadAcc {src : Src8} {m : Byte} (r : Acc) (h : s.opnd8 src = .ok m) :
    finish (s.loadAcc r src) = .next (((s.afterOpnd8 src).setAcc r m).setCcr (Spec.moved8 m s.ccr)) := by
  rw [← logic8_eq_moved8]
  exact finish_eq_next.2 (loadAcc_eq_ok.2 ⟨m, h, rfl⟩)

/-- A load of a 16-bit register from a readable operand. -/
theorem finish_loadReg {src : Src16} {v : Word} (r : Reg16) (h : s.opnd16 src = .ok v) :
    finish (s.loadReg r src) = .next (((s.afterOpnd16 src).setReg16 r v).setCcr (Spec.moved16 v s.ccr)) := by
  rw [← logic16_eq_moved16]
  exact finish_eq_next.2 (loadReg_eq_ok.2 ⟨v, h, rfl⟩)

/-- Settles O30: the six loads are the two load shapes at their registers. -/
theorem loads : Obligations.Loads := fun _ =>
  ⟨fun _ _ h => ⟨finish_loadAcc .a h, finish_loadAcc .b h⟩,
    fun _ _ h => ⟨finish_loadReg .d h, finish_loadReg .sp h, finish_loadReg .ix h, finish_loadReg .iy h⟩⟩

/-! ### Stores -/

/-- A store of an accumulator, wherever it goes. -/
theorem finish_storeAcc (s : State) (r : Acc) (m : Addr) :
    finish (s.storeAcc r m) = .next ((s.stored (s.ea m) (s.acc r)).setCcr (Spec.moved8 (s.acc r) s.ccr)) := by
  rw [storeAcc_ok, finish_ok, logic8_eq_moved8]

/-- A store of a 16-bit register, wherever it goes. -/
theorem finish_storeReg (s : State) (r : Reg16) (m : Addr) :
    finish (s.storeReg r m) = .next ((s.stored16 (s.ea m) (s.reg16 r)).setCcr (Spec.moved16 (s.reg16 r) s.ccr)) := by
  rw [storeReg_ok, finish_ok, logic16_eq_moved16]

/-- Settles O31: the six stores are the two store shapes at their registers. -/
theorem stores : Obligations.Stores := fun s m =>
  ⟨finish_storeAcc s .a m, finish_storeAcc s .b m, finish_storeReg s .d m, finish_storeReg s .sp m,
    finish_storeReg s .ix m, finish_storeReg s .iy m⟩

/-! ### Transfers and exchanges -/

/-- Settles O32: the accumulator transfers set the flags of a move; SP is the next free byte, one below the index. -/
theorem transfers : Obligations.Transfers := by
  intro s
  rw [← logic8_eq_moved8, ← logic8_eq_moved8, ← word_succ, ← word_pred, ← word_pred]
  exact ⟨rfl, rfl, rfl, rfl, rfl, rfl, rfl, rfl⟩

/-! ### Clears and tests -/

/-- CLR throws its byte away, so that it stores wherever the byte lies (20_memory.md R88). -/
theorem exec_clr (s : State) (m : Addr) :
    exec (.clr m) s = .next (((s.afterRead (s.ea m)).stored (s.ea m) (clr8 0 s.ccr).1).setCcr (clr8 0 s.ccr).2) := by
  simp only [exec, execClr, discardRead8_ok, ok_bind, write8_ok, finish_ok]

/-- TST of a readable byte sets its flags and stores nothing. -/
theorem exec_tst {m : Addr} {v : Byte} (h : s.read8 (s.ea m) = .ok v) :
    exec (.tst m) s = .next ((s.afterRead (s.ea m)).setCcr (tst8 v s.ccr)) := by
  simp only [exec, execTst, h, ok_bind, finish_ok]

/-- Settles O33: the clears have one fixed pattern; the tests have the flags of their byte. -/
theorem clearsAndTests : Obligations.ClearsAndTests := by
  intro s m
  simp only [← tst8_eq_signZero8]
  exact ⟨rfl, rfl, exec_clr s m, rfl, rfl, fun v h => exec_tst h⟩

end Sys2Proof.Machine
end

section
/-! PROOF. The stack instructions (41_stack.md): each push and pull is the operation of 20_memory.md R78 or R79 at its register. -/

namespace Sys2Proof.Machine

variable {s : State}

/-! ### Pulls -/

theorem exec_pula_of_pull8 {p : Byte × State} (h : s.pull8 = .ok p) : exec .pula s = .next (p.2.setA p.1) := by
  simp only [exec, execPula, h, ok_bind, finish_ok]

theorem exec_pulx_of_pull16 {p : Word × State} (h : s.pull16 = .ok p) : exec .pulx s = .next (p.2.setIx p.1) := by
  simp only [exec, execPulx, h, ok_bind, finish_ok]

/-- PULA and PULB with a readable byte above SP (41_stack.md R235, R236). -/
theorem exec_pull_of_read8 {v : Byte} (h : s.read8 (s.sp + 1) = .ok v) :
    exec .pula s = .next (((s.afterRead (s.sp + 1)).setSp (s.sp + 1)).setA v) ∧
    exec .pulb s = .next (((s.afterRead (s.sp + 1)).setSp (s.sp + 1)).setB v) :=
  have hpull : s.pull8 = .ok (v, (s.afterRead (s.sp + 1)).setSp (s.sp + 1)) := pull8_eq_ok.2 ⟨v, h, rfl⟩
  ⟨exec_pula_of_pull8 hpull, exec_pulb_of_pull8 hpull⟩

/-- PULX and PULY with a readable word above SP (41_stack.md R237, R238). -/
theorem exec_pull_of_read16 {v : Word} (h : s.read16 (s.sp + 1) = .ok v) :
    exec .pulx s = .next (((s.afterRead16 (s.sp + 1)).setSp (s.sp + 2)).setIx v) ∧
    exec .puly s = .next (((s.afterRead16 (s.sp + 1)).setSp (s.sp + 2)).setIy v) :=
  have hpull : s.pull16 = .ok (v, (s.afterRead16 (s.sp + 1)).setSp (s.sp + 2)) := pull16_eq_ok.2 ⟨v, h, rfl⟩
  ⟨exec_pulx_of_pull16 hpull, exec_puly_of_pull16 hpull⟩

/-! ### SP moved alone -/

/-- INS goes from $FFFF to $0000 (41_stack.md R240). -/
theorem exec_ins (s : State) : exec .ins s = .next (s.setSp (BitVec.ofNat 16 (s.sp.toNat + 1))) := by
  rw [← word_succ]
  rfl

/-- DES goes from $0000 to $FFFF (41_stack.md R239). -/
theorem exec_des (s : State) : exec .des s = .next (s.setSp (BitVec.ofNat 16 (s.sp.toNat + 65535))) := by
  rw [← word_pred]
  rfl

/-- Settles O34: a push never stops, a pull answers what it can read above SP, and INS and DES move SP alone. -/
theorem stackMoves : Obligations.StackMoves := fun s =>
  ⟨congrArg finish (push8_ok s s.a), congrArg finish (push8_ok s s.b), congrArg finish (push16_ok s s.ix),
    congrArg finish (push16_ok s s.iy), fun _ => exec_pull_of_read8, fun _ => exec_pull_of_read16, exec_ins s, exec_des s⟩

end Sys2Proof.Machine
end

section
/-! PROOF. Sums: the additions, subtractions and comparisons of bytes and words (42_arithmetic.md R251 to R270), with the
flags of 10_state.md R39 to R42 over the integers. -/

namespace Sys2Proof.Machine

variable {s : State}

/-! ### V: the bit formulas say that the signed result does not fit -/

/-- The sign bit of a number cut to a word is its sign exactly when the number fits. -/
theorem msb_ofInt {w : Nat} {x : Int} (hlow : -(2 * 2 ^ w) ≤ x) (hhigh : x < 2 * 2 ^ w) :
    (BitVec.ofInt (w + 1) x).msb = decide (x < 0 ↔ -2 ^ w ≤ x ∧ x < 2 ^ w) := by
  have hpow : ((2 ^ (w + 1) : Nat) : Int) = 2 * 2 ^ w := by push_cast; ring
  rw [BitVec.msb_eq_toInt, BitVec.toInt_ofInt, Int.bmod_def, hpow, decide_eq_decide]
  by_cases hneg : x < 0
  · rw [← Int.add_emod_right, Int.emod_eq_of_lt (by omega) (by omega)]
    omega
  · rw [Int.emod_eq_of_lt (by omega) hhigh]
    omega

/-- A signed sum overflows exactly when its two addends have one sign and its result the other. `neg` says which sign
the second addend counts with, as a carry or borrow is part of that addend; 0 may count with either. -/
theorem signed_overflow {w : Nat} {a r : BitVec (w + 1)} {neg : Bool} {y : Int}
    (hneg : neg = true → -2 ^ w ≤ y ∧ y ≤ 0) (hnonneg : neg = false → 0 ≤ y ∧ y ≤ 2 ^ w)
    (hr : r = BitVec.ofInt (w + 1) (a.toInt + y)) :
    (a.msb && neg && !r.msb || !a.msb && !neg && r.msb) =
      decide (a.toInt + y < -2 ^ w ∨ 2 ^ w ≤ a.toInt + y) := by
  have hlow : -2 ^ w ≤ a.toInt := a.le_toInt
  have hhigh : a.toInt < 2 ^ w := a.toInt_lt
  cases neg with
  | true =>
    obtain ⟨hy, hy'⟩ := hneg rfl
    rw [hr, msb_ofInt (by omega) (by omega), BitVec.msb_eq_toInt, Bool.eq_iff_iff]
    simp only [Bool.and_true, Bool.not_true, Bool.and_false, Bool.false_and, Bool.or_false, Bool.and_eq_true,
      Bool.not_eq_true', decide_eq_true_eq, decide_eq_false_iff_not]
    omega
  | false =>
    obtain ⟨hy, hy'⟩ := hnonneg rfl
    rw [hr, msb_ofInt (by omega) (by omega), BitVec.msb_eq_toInt, Bool.eq_iff_iff]
    simp only [Bool.and_false, Bool.not_false, Bool.and_true, Bool.false_and, Bool.false_or, Bool.and_eq_true,
      Bool.not_eq_true', decide_eq_true_eq, decide_eq_false_iff_not]
    omega

/-- V of an addition with carry (10_state.md R39, R41). -/
theorem sum_overflow {w : Nat} {a m r : BitVec (w + 1)} {c : Bool}
    (hr : r = BitVec.ofInt (w + 1) (a.toInt + m.toInt + c.toNat)) :
    (a.msb && m.msb && !r.msb || !a.msb && !m.msb && r.msb) =
      decide (a.toInt + m.toInt + c.toNat < -2 ^ w ∨ 2 ^ w ≤ a.toInt + m.toInt + c.toNat) := by
  have hlow : -2 ^ w ≤ m.toInt := m.le_toInt
  have hhigh : m.toInt < 2 ^ w := m.toInt_lt
  have hc := c.toNat_le
  rw [add_assoc] at hr ⊢
  refine signed_overflow (fun h => ?_) (fun h => ?_) hr
  · rw [BitVec.msb_eq_toInt, decide_eq_true_eq] at h
    omega
  · rw [BitVec.msb_eq_toInt, decide_eq_false_iff_not] at h
    omega

/-- V of a subtraction with borrow (10_state.md R40, R42). -/
theorem difference_overflow {w : Nat} {a m r : BitVec (w + 1)} {c : Bool}
    (hr : r = BitVec.ofInt (w + 1) (a.toInt - m.toInt - c.toNat)) :
    (a.msb && !m.msb && !r.msb || !a.msb && m.msb && r.msb) =
      decide (a.toInt - m.toInt - c.toNat < -2 ^ w ∨ 2 ^ w ≤ a.toInt - m.toInt - c.toNat) := by
  have hlow : -2 ^ w ≤ m.toInt := m.le_toInt
  have hhigh : m.toInt < 2 ^ w := m.toInt_lt
  have hc := c.toNat_le
  have hsum : a.toInt - m.toInt - c.toNat = a.toInt + (-m.toInt - c.toNat) := by ring
  rw [hsum] at hr ⊢
  rw [← signed_overflow (neg := !m.msb) (fun h => ?_) (fun h => ?_) hr, Bool.not_not]
  · rw [BitVec.msb_eq_toInt, Bool.not_eq_true', decide_eq_false_iff_not] at h
    omega
  · rw [BitVec.msb_eq_toInt, Bool.not_eq_false', decide_eq_true_eq] at h
    omega

theorem overflows8_eq (x : Int) : Spec.overflows8 x = decide (x < -2 ^ 7 ∨ 2 ^ 7 ≤ x) := rfl

theorem overflows16_eq (x : Int) : Spec.overflows16 x = decide (x < -2 ^ 15 ∨ 2 ^ 15 ≤ x) := rfl

/-! ### The results are the integers cut to the width -/

theorem ofInt_sub {w : Nat} (x y : Int) : BitVec.ofInt w (x - y) = BitVec.ofInt w x - BitVec.ofInt w y := by
  rw [Int.sub_eq_add_neg, BitVec.ofInt_add, BitVec.ofInt_neg, BitVec.sub_eq_add_neg]

theorem bitByte_eq_ofNat (c : Bool) : bitByte c = BitVec.ofNat 8 c.toNat := by
  cases c <;> rfl

theorem add_carry_eq_ofNat (a m : Byte) (c : Bool) :
    a + m + bitByte c = BitVec.ofNat 8 (a.toNat + m.toNat + c.toNat) := by
  rw [BitVec.ofNat_add, BitVec.ofNat_add, bitByte_eq_ofNat, BitVec.ofNat_toNat, BitVec.ofNat_toNat,
    BitVec.setWidth_eq, BitVec.setWidth_eq]

theorem add_carry_eq_ofInt (a m : Byte) (c : Bool) :
    a + m + bitByte c = BitVec.ofInt 8 (a.toInt + m.toInt + c.toNat) := by
  rw [BitVec.ofInt_add, BitVec.ofInt_add, BitVec.ofInt_toInt, BitVec.ofInt_toInt, BitVec.ofInt_natCast,
    bitByte_eq_ofNat]

theorem sub_borrow_eq_ofInt (a m : Byte) (c : Bool) :
    a - m - bitByte c = BitVec.ofInt 8 (a.toInt - m.toInt - c.toNat) := by
  rw [ofInt_sub, ofInt_sub, BitVec.ofInt_toInt, BitVec.ofInt_toInt, BitVec.ofInt_natCast, bitByte_eq_ofNat]

/-- H: the majority formula over bit 3 is the carry out of the low digit (10_state.md R39). -/
theorem halfCarry_eq (a m : Byte) (c : Bool) :
    (a.getLsbD 3 && m.getLsbD 3 || m.getLsbD 3 && !(a + m + bitByte c).getLsbD 3 ||
      !(a + m + bitByte c).getLsbD 3 && a.getLsbD 3) = decide (15 < a.toNat % 16 + m.toNat % 16 + c.toNat) := by
  have hc := c.toNat_le
  simp only [add_carry_eq_ofNat, ← BitVec.testBit_toNat, Nat.testBit_eq_decide_div_mod_eq, BitVec.toNat_ofNat]
  rw [Bool.eq_iff_iff]
  simp only [Bool.or_eq_true, Bool.and_eq_true, Bool.not_eq_true', decide_eq_true_eq, decide_eq_false_iff_not]
  omega

/-! ### The operations over the integers -/

/-- ADD8 over the integers (10_state.md R39). -/
theorem add8_eq_addByte (a m : Byte) (c : Bool) (f : CCR) : add8 a m c f = Spec.addByte a m c f := by
  have hv := sum_overflow (w := 7) (add_carry_eq_ofInt a m c)
  simp only [add8, Spec.addByte, ← add_carry_eq_ofNat, nz8_eq_signZero8, halfCarry_eq, overflows8_eq, hv]

/-- SUB8 over the integers (10_state.md R40). -/
theorem sub8_eq_subByte (a m : Byte) (c : Bool) (f : CCR) : sub8 a m c f = Spec.subByte a m c f := by
  have hv := difference_overflow (w := 7) (sub_borrow_eq_ofInt a m c)
  have hborrow : decide (a.toNat < m.toNat + c.toNat) = decide ((a.toNat : Int) - m.toNat - c.toNat < 0) := by
    rw [decide_eq_decide]
    omega
  simp only [sub8, Spec.subByte, ← sub_borrow_eq_ofInt, nz8_eq_signZero8, overflows8_eq, hv, hborrow]

/-- ADD16 over the integers (10_state.md R41). -/
theorem add16_eq_addWord (a m : Word) (f : CCR) : add16 a m f = Spec.addWord a m f := by
  have hr : a + m = BitVec.ofNat 16 (a.toNat + m.toNat) := by simp [BitVec.ofNat_add]
  have hv := sum_overflow (w := 15) (a := a) (m := m) (r := a + m) (c := false) (by simp [BitVec.ofInt_add])
  simp only [Bool.toNat_false, Nat.cast_zero, add_zero] at hv
  simp only [add16, Spec.addWord, ← hr, nz16_eq_signZero16, overflows16_eq, hv]

/-- SUB16 over the integers (10_state.md R42). -/
theorem sub16_eq_subWord (a m : Word) (f : CCR) : sub16 a m f = Spec.subWord a m f := by
  have hr : a - m = BitVec.ofInt 16 (a.toInt - m.toInt) := by simp [ofInt_sub]
  have hv := difference_overflow (w := 15) (a := a) (m := m) (r := a - m) (c := false) (by simp [hr])
  simp only [Bool.toNat_false, Nat.cast_zero, sub_zero] at hv
  simp only [sub16, Spec.subWord, ← hr, nz16_eq_signZero16, overflows16_eq, hv]

/-! ### The shapes, on an operand that can be read -/

theorem finish_accOp {r : Acc} {op : Byte → Byte → CCR → Byte × CCR} {src : Src8} {m : Byte}
    (h : s.opnd8 src = .ok m) :
    finish (s.accOp r op src) =
      .next (((s.afterOpnd8 src).setAcc r (op (s.acc r) m s.ccr).1).setCcr (op (s.acc r) m s.ccr).2) :=
  finish_eq_next.2 (accOp_eq_ok.2 ⟨m, h, rfl⟩)

theorem finish_accTest {r : Acc} {op : Byte → Byte → CCR → CCR} {src : Src8} {m : Byte} (h : s.opnd8 src = .ok m) :
    finish (s.accTest r op src) = .next ((s.afterOpnd8 src).setCcr (op (s.acc r) m s.ccr)) :=
  finish_eq_next.2 (accTest_eq_ok.2 ⟨m, h, rfl⟩)

theorem finish_regOp {r : Reg16} {op : Word → Word → CCR → Word × CCR} {src : Src16} {m : Word}
    (h : s.opnd16 src = .ok m) :
    finish (s.regOp r op src) =
      .next (((s.afterOpnd16 src).setReg16 r (op (s.reg16 r) m s.ccr).1).setCcr (op (s.reg16 r) m s.ccr).2) :=
  finish_eq_next.2 (regOp_eq_ok.2 ⟨m, h, rfl⟩)

theorem finish_regTest {r : Reg16} {op : Word → Word → CCR → CCR} {src : Src16} {m : Word}
    (h : s.opnd16 src = .ok m) :
    finish (s.regTest r op src) = .next ((s.afterOpnd16 src).setCcr (op (s.reg16 r) m s.ccr)) :=
  finish_eq_next.2 (regTest_eq_ok.2 ⟨m, h, rfl⟩)

/-- Settles O36: each form is ADD8 of its accumulator and operand; ADCA and ADCB take the old C in. -/
theorem byteAdditions : Obligations.ByteAdditions := by
  intro s
  simp only [← add8_eq_addByte]
  exact ⟨rfl, fun _ _ h => ⟨finish_accOp h, finish_accOp h, finish_accOp h, finish_accOp h⟩⟩

/-- Settles O37: each form is SUB8 of its accumulator and operand; SBCA and SBCB take the old C in, and the compares keep
the flags alone. -/
theorem byteSubtractions : Obligations.ByteSubtractions := by
  intro s
  simp only [← sub8_eq_subByte]
  exact ⟨rfl, rfl, fun _ _ h =>
    ⟨finish_accOp h, finish_accOp h, finish_accOp h, finish_accOp h, finish_accTest h, finish_accTest h⟩⟩

/-- Settles O38: ADDD is ADD16 of D, the others are SUB16 of their register. -/
theorem wordArithmetic : Obligations.WordArithmetic := by
  intro s src m h
  simp only [← add16_eq_addWord, ← sub16_eq_subWord]
  exact ⟨finish_regOp h, finish_regOp h, finish_regTest h, finish_regTest h, finish_regTest h⟩

end Sys2Proof.Machine
end

section
/-! PROOF. Index arithmetic: ABX and ABY, and the four steps that write Z alone (42_arithmetic.md R252, R253,
R280 to R283). -/

namespace Sys2Proof.Machine

/-- B is added unsigned, and the sum wraps (42_arithmetic.md R252, R253). -/
theorem add_zext (x : Word) (y : Byte) : x + zext y = BitVec.ofNat 16 (x.toNat + y.toNat) := by
  apply BitVec.eq_of_toNat_eq
  rw [BitVec.toNat_add, zext_toNat, BitVec.toNat_ofNat]

/-- The index after $FFFF is 0. -/
theorem indexFlags_succ (x : Word) (f : CCR) : indexFlags (x + 1) f = { f with z := decide (x.toNat = 65535) } := by
  have hz : (x + 1 == 0) = decide (x.toNat = 65535) := by
    rw [Bool.eq_iff_iff, beq_iff_eq, decide_eq_true_eq]
    bv_omega
  rw [indexFlags, hz]

/-- The index before 1 is 0. -/
theorem indexFlags_pred (x : Word) (f : CCR) : indexFlags (x - 1) f = { f with z := decide (x.toNat = 1) } := by
  have hz : (x - 1 == 0) = decide (x.toNat = 1) := by
    rw [Bool.eq_iff_iff, beq_iff_eq, decide_eq_true_eq]
    bv_omega
  rw [indexFlags, hz]

/-- INX and INY (42_arithmetic.md R280, R281). -/
theorem stepIndex_succ (s : State) (r : Reg16) :
    s.stepIndex r 1 =
      (s.setReg16 r (s.reg16 r + 1)).setCcr { s.ccr with z := decide ((s.reg16 r).toNat = 65535) } := by
  rw [State.stepIndex, indexFlags_succ]

/-- DEX and DEY add $FFFF, which is the subtraction of 1 mod 65536 (42_arithmetic.md R282, R283). -/
theorem stepIndex_pred (s : State) (r : Reg16) :
    s.stepIndex r 0xFFFF =
      (s.setReg16 r (s.reg16 r - 1)).setCcr { s.ccr with z := decide ((s.reg16 r).toNat = 1) } := by
  have hpred : s.reg16 r + 0xFFFF = s.reg16 r - 1 := by bv_omega
  rw [State.stepIndex, hpred, indexFlags_pred]

/-- Settles O41: ABX and ABY change the index alone; the four steps are the step shape at their register. -/
theorem indexArithmetic : Obligations.IndexArithmetic := by
  intro s
  rw [← add_zext, ← add_zext]
  exact ⟨rfl, rfl, congrArg Host.Outcome.next (stepIndex_succ s .ix), congrArg Host.Outcome.next (stepIndex_succ s .iy),
    congrArg Host.Outcome.next (stepIndex_pred s .ix), congrArg Host.Outcome.next (stepIndex_pred s .iy)⟩

end Sys2Proof.Machine
end

section
/-! PROOF. Decimal adjust: what DAA adds, the sums of packed-BCD bytes by their two digit sums, the domain of DAA, and
decimal addition (42_arithmetic.md R287, 93_implementation_defined.md U1, U4). -/

namespace Sys2Proof.Machine

variable {s : State} {p q hi lo : Nat} {x : Byte} {f : CCR}

/-! ### What DAA does -/

theorem daaLow_iff (x : Byte) (f : CCR) : daaLow x f = true ↔ x.toNat % 16 > 9 ∨ f.h = true := by
  simp [daaLow]

theorem daaHigh_iff (x : Byte) (f : CCR) : daaHigh x f = true ↔ x.toNat > 0x99 ∨ f.c = true := by
  simp [daaHigh]

theorem daa8_fst (x : Byte) (v : Bool) (f : CCR) :
    (daa8 x v f).1 =
      BitVec.ofNat 8 (x.toNat + (if daaLow x f then 0x06 else 0) + (if daaHigh x f then 0x60 else 0)) := by
  simp only [daa8, BitVec.ofNat_add, BitVec.ofNat_toNat, BitVec.setWidth_eq]
  cases daaLow x f <;> cases daaHigh x f <;> rfl

theorem daa8_snd (x : Byte) (v : Bool) (f : CCR) :
    (daa8 x v f).2 = { Spec.signZero8 (daa8 x v f).1 f with v := v, c := daaHigh x f } := by
  rw [← nz8_eq_signZero8]
  rfl

/-- DAA adjusts where its domain is total, and in its domain where that is restricted. -/
theorem exec_daa_of_inDomain (h : s.params.daaDomain = .total ∨ daaInDomain s.a s.ccr = true) :
    exec .daa s =
      .next (((s.setA (daa8 s.a s.drawnBit s.ccr).1).setCcr (daa8 s.a s.drawnBit s.ccr).2).afterDraw) := by
  rw [exec_daa, if_neg]
  rintro ⟨hrefuse, hout⟩
  rcases h with htotal | hin
  · rw [htotal] at hrefuse
    cases hrefuse
  · rw [hin] at hout
    cases hout

/-- Settles O42: the corrections are those of 42_arithmetic.md R287, and V is the next free bit. -/
theorem decimalAdjust : Obligations.DecimalAdjust := by
  intro s htotal
  simp only [← daaLow_iff s.a s.ccr, ← daaHigh_iff s.a s.ccr, ← daa8_fst _ s.drawnBit, Bool.decide_eq_true]
  rw [exec_daa_of_inDomain (.inl htotal), daa8_snd]
  rfl

/-! ### Sums of two packed-BCD bytes and a carry, by the sum `hi` of the high digits and the sum `lo` of the low digits
and the carry -/

theorem bcd_toNat (h : p < 100) : (Spec.bcd p).toNat = 16 * (p / 10) + p % 10 := by
  rw [Spec.bcd, BitVec.toNat_ofNat]
  omega

theorem bcd_sum_digits (hp : p < 100) (hq : q < 100) (c : Bool) :
    ∃ hi lo, hi ≤ 18 ∧ lo ≤ 19 ∧ (Spec.bcd p).toNat + (Spec.bcd q).toNat + c.toNat = 16 * hi + lo ∧
      p % 10 + q % 10 + c.toNat = lo ∧ p + q + c.toNat = 10 * hi + lo := by
  have hc := c.toNat_le
  refine ⟨p / 10 + q / 10, p % 10 + q % 10 + c.toNat, by omega, by omega, ?_, rfl, by omega⟩
  rw [bcd_toNat hp, bcd_toNat hq]
  omega

/-- Every pair of digit sums up to 18 and 19 comes from some addition: the first number takes as much of each as a digit
holds, and the carry is needed for 19 alone. -/
theorem exists_bcd_sum (hhi : hi ≤ 18) (hlo : lo ≤ 19) :
    ∃ p q : Nat, ∃ c : Bool, p < 100 ∧ q < 100 ∧
      (Spec.bcd p).toNat + (Spec.bcd q).toNat + c.toNat = 16 * hi + lo ∧ p % 10 + q % 10 + c.toNat = lo := by
  have hp : 10 * min hi 9 + min lo 9 < 100 := by omega
  have hq : 10 * (hi - 9) + min (lo - 9) 9 < 100 := by omega
  have hcin : (decide (lo = 19)).toNat = lo - 18 := by
    by_cases h19 : lo = 19
    · simp [h19]
    · simp only [h19, decide_false, Bool.toNat_false]
      omega
  refine ⟨_, _, decide (lo = 19), hp, hq, ?_⟩
  rw [bcd_toNat hp, bcd_toNat hq, hcin]
  omega

/-! ### The domain: both sides say that the digit sums, taken back from A, H and C, are possible -/

theorem eq_decide_iff_toNat {b : Bool} {P : Prop} [Decidable P] : b = decide P ↔ (b.toNat = 1 ↔ P) := by
  rw [Bool.eq_iff_iff, decide_eq_true_eq, Bool.toNat_eq_one]

theorem fromBcdSum_iff_digits {h c : Bool} :
    Spec.FromBcdSum x h c ↔ x.toNat % 16 + 16 * h.toNat ≤ 19 ∧ h.toNat ≤ x.toNat / 16 + 16 * c.toNat ∧
      x.toNat / 16 + 16 * c.toNat ≤ 18 + h.toNat := by
  have hx := x.isLt
  have hh := h.toNat_le
  have hc := c.toNat_le
  simp only [Spec.FromBcdSum, eq_decide_iff_toNat]
  constructor
  · rintro ⟨p, q, cin, hp, hq, hsum, hhalf, hcarry⟩
    obtain ⟨hi, lo, hhi, hlo, htotal, hlow, _⟩ := bcd_sum_digits hp hq cin
    omega
  · rintro ⟨hlow, hmin, hmax⟩
    obtain ⟨p, q, cin, hp, hq, htotal, hlo⟩ :=
      exists_bcd_sum (hi := x.toNat / 16 + 16 * c.toNat - h.toNat) (by omega) hlow
    refine ⟨p, q, cin, hp, hq, ?_⟩
    omega

theorem daaInDomain_iff_digits :
    daaInDomain x f = true ↔ x.toNat % 16 + 16 * f.h.toNat ≤ 19 ∧ f.h.toNat ≤ x.toNat / 16 + 16 * f.c.toNat ∧
      x.toNat / 16 + 16 * f.c.toNat ≤ 18 + f.h.toNat := by
  have hx := x.isLt
  have hh := f.h.toNat_le
  have hc := f.c.toNat_le
  simp only [daaInDomain, Bool.and_eq_true, Bool.or_eq_true, Bool.not_eq_true', decide_eq_true_eq]
  rw [← Bool.toNat_eq_one (b := f.c), ← Bool.toNat_eq_zero (b := f.c), ← Bool.toNat_eq_zero (b := f.h)]
  omega

/-- The model's closed form of the domain is the right one (93_implementation_defined.md U4, log 11). -/
theorem daaInDomain_iff_fromBcdSum : daaInDomain x f = true ↔ Spec.FromBcdSum x f.h f.c := by
  rw [daaInDomain_iff_digits, fromBcdSum_iff_digits]

/-- Settles O44: the model's closed form of the domain decides between the two outcomes. -/
theorem decimalAdjustDomain : Obligations.DecimalAdjustDomain := by
  intro s hrefuse
  rw [← daaInDomain_iff_fromBcdSum, Bool.not_eq_true]
  refine ⟨fun hout => ?_, fun hin => ⟨_, exec_daa_of_inDomain (.inr hin)⟩⟩
  rw [exec_daa, if_pos ⟨hrefuse, hout⟩]

/-! ### Decimal addition: the corrections make up for the six values that a digit leaves out -/

theorem daaLow_of_digits (hlo : lo ≤ 19) (hx : x.toNat = (16 * hi + lo) % 256) (hh : f.h = decide (15 < lo)) :
    daaLow x f = decide (10 ≤ lo) := by
  rw [Bool.eq_iff_iff, daaLow_iff, hx, hh, decide_eq_true_eq, decide_eq_true_eq]
  omega

theorem daaHigh_of_digits (hhi : hi ≤ 18) (hlo : lo ≤ 19) (hx : x.toNat = (16 * hi + lo) % 256)
    (hc : f.c = decide (255 < 16 * hi + lo)) : daaHigh x f = decide (100 ≤ 10 * hi + lo) := by
  rw [Bool.eq_iff_iff, daaHigh_iff, hx, hc, decide_eq_true_eq, decide_eq_true_eq]
  omega

/-- Each correction is 6 times its digit's decimal carry, which turns a carry of 10 into one of 16. -/
theorem daa8_of_digits (hhi : hi ≤ 18) (hlo : lo ≤ 19) (hx : x.toNat = (16 * hi + lo) % 256)
    (hh : f.h = decide (15 < lo)) (hc : f.c = decide (255 < 16 * hi + lo)) (v : Bool) :
    (daa8 x v f).1 = Spec.bcd ((10 * hi + lo) % 100) := by
  have hlowCorrection : (if daaLow x f then 0x06 else 0) = 6 * (lo / 10) := by
    rw [daaLow_of_digits hlo hx hh]
    simp only [decide_eq_true_eq]
    split <;> omega
  have hhighCorrection : (if daaHigh x f then 0x60 else 0) = 96 * ((hi + lo / 10) / 10) := by
    rw [daaHigh_of_digits hhi hlo hx hc]
    simp only [decide_eq_true_eq]
    split <;> omega
  have hadjusted : 16 * hi + lo + 6 * (lo / 10) + 96 * ((hi + lo / 10) / 10) =
      16 * ((hi + lo / 10) % 10) + lo % 10 + 256 * ((hi + lo / 10) / 10) := by omega
  have hdecimal : 16 * ((10 * hi + lo) % 100 / 10) + (10 * hi + lo) % 100 % 10 =
      16 * ((hi + lo / 10) % 10) + lo % 10 := by omega
  apply BitVec.eq_of_toNat_eq
  rw [daa8_fst, hlowCorrection, hhighCorrection, hx, Spec.bcd, hdecimal, BitVec.toNat_ofNat, BitVec.toNat_ofNat,
    add_assoc, Nat.mod_add_mod, ← add_assoc, hadjusted, Nat.add_mul_mod_self_left]

/-- The addition of two packed-BCD bytes leaves a state of DAA's domain, with the carries of the same two numbers. -/
theorem addByte_bcd (hp : p < 100) (hq : q < 100) (c : Bool) (f : CCR) :
    (Spec.addByte (Spec.bcd p) (Spec.bcd q) c f).1.toNat = ((Spec.bcd p).toNat + (Spec.bcd q).toNat + c.toNat) % 256 ∧
      (Spec.addByte (Spec.bcd p) (Spec.bcd q) c f).2.h = decide (15 < p % 10 + q % 10 + c.toNat) ∧
      (Spec.addByte (Spec.bcd p) (Spec.bcd q) c f).2.c =
        decide (255 < (Spec.bcd p).toNat + (Spec.bcd q).toNat + c.toNat) := by
  have hlow : ∀ n, (16 * (n / 10) + n % 10) % 16 = n % 10 := fun n => by omega
  refine ⟨BitVec.toNat_ofNat _ _, ?_, rfl⟩
  simp only [Spec.addByte, bcd_toNat hp, bcd_toNat hq, hlow]

/-- Settles O43: ADCA leaves the digit sums of the two numbers and the carry, and DAA adjusts them. -/
theorem decimalAdjustIsDecimal : Obligations.DecimalAdjustIsDecimal := by
  intro s src p q hp hq ha hsrc
  obtain ⟨_, hadd⟩ := byteAdditions s
  obtain ⟨_, _, hadca, _⟩ := hadd src _ hsrc
  rw [ha] at hadca
  have hsum := addByte_bcd hp hq s.ccr.c s.ccr
  have hdomain := daaInDomain_iff_fromBcdSum.2 ⟨p, q, s.ccr.c, hp, hq, hsum⟩
  obtain ⟨hi, lo, hhi, hlo, htotal, hlow, hvalue⟩ := bcd_sum_digits hp hq s.ccr.c
  rw [htotal, hlow] at hsum
  obtain ⟨hx, hh, hc⟩ := hsum
  refine ⟨_, _, hadca, exec_daa_of_inDomain (.inr hdomain), ?_, ?_⟩
  · rw [hvalue]
    exact daa8_of_digits hhi hlo hx hh hc s.drawnBit
  · rw [hvalue]
    exact daaHigh_of_digits hhi hlo hx hc

end Sys2Proof.Machine
end

section
/-! PROOF. Multiply and divide: the product of MUL, and the quotient and remainder of IDIV and FDIV, over the natural
numbers (43_multiply_divide.md R301 to R303). -/

namespace Sys2Proof.Machine

variable {s t : State} {n : Nat} {d : Word}

/-! ### The product -/

theorem mulResult_eq_ofNat (x y : Byte) : mulResult x y = BitVec.ofNat 16 (x.toNat * y.toNat) := by
  apply BitVec.eq_of_toNat_eq
  rw [mulResult, BitVec.toNat_mul, zext_toNat, zext_toNat, BitVec.toNat_ofNat]

/-- C of MUL is bit 7 of the product (43_multiply_divide.md R301). -/
theorem mulResult_bit7 (x y : Byte) :
    (mulResult x y).getLsbD 7 = decide (x.toNat * y.toNat / 128 % 2 = 1) := by
  rw [mulResult_eq_ofNat, BitVec.getLsbD_ofNat, Nat.testBit_eq_decide_div_mod_eq, decide_eq_true (by decide : 7 < 16),
    Bool.true_and]

theorem exec_mul (s : State) :
    exec .mul s = .next ((s.setD (BitVec.ofNat 16 (s.a.toNat * s.b.toNat))).setCcr
      { s.ccr with c := decide (s.a.toNat * s.b.toNat / 128 % 2 = 1) }) := by
  rw [← mulResult_bit7, ← mulResult_eq_ofNat]
  rfl

/-! ### D and CCR -/

@[simp] theorem State.setCcr_d (f : CCR) : (s.setCcr f).d = s.d := rfl

/-! ### A division whose quotient fits a word: the dividend is below the divisor times 65536 -/

/-- The words of the quotient and the remainder lose nothing. -/
theorem quotient_remainder_toNat (h : n < d.toNat * 65536) :
    (BitVec.ofNat 16 (n / d.toNat)).toNat = n / d.toNat ∧ (BitVec.ofNat 16 (n % d.toNat)).toNat = n % d.toNat := by
  have hpos : 0 < d.toNat := by omega
  have hquotient : n / d.toNat < 2 ^ 16 := Nat.div_lt_of_lt_mul h
  have hremainder : n % d.toNat < 2 ^ 16 := (Nat.mod_lt n hpos).trans d.isLt
  exact ⟨Nat.mod_eq_of_lt hquotient, Nat.mod_eq_of_lt hremainder⟩

/-- The division identity, in the state that a division leaves whatever flags it sets. -/
theorem divided_identity (h : n < d.toNat * 65536) {f : CCR}
    (ht : t = ((s.setIx (BitVec.ofNat 16 (n / d.toNat))).setD (BitVec.ofNat 16 (n % d.toNat))).setCcr f) :
    t.ix.toNat * d.toNat + t.d.toNat = n ∧ t.d.toNat < d.toNat := by
  have hpos : 0 < d.toNat := by omega
  obtain ⟨hquotient, hremainder⟩ := quotient_remainder_toNat h
  have hix : t.ix.toNat = n / d.toNat := by rw [ht, State.setCcr_ix, State.setD_ix, State.setIx_ix, hquotient]
  have hd : t.d.toNat = n % d.toNat := by rw [ht, State.setCcr_d, State.setD_d, hremainder]
  rw [hix, hd]
  exact ⟨Nat.div_add_mod' n d.toNat, Nat.mod_lt n hpos⟩

/-- Z of a division: the quotient is 0 when the dividend is below the divisor. -/
theorem quotient_beq_zero (h : n < d.toNat * 65536) :
    (BitVec.ofNat 16 (n / d.toNat) == 0) = decide (n < d.toNat) := by
  have hpos : 0 < d.toNat := by omega
  obtain ⟨hquotient, _⟩ := quotient_remainder_toNat h
  rw [Bool.eq_iff_iff, beq_iff_eq, decide_eq_true_eq, ← BitVec.toNat_inj, hquotient]
  exact Nat.div_eq_zero_iff_lt hpos

/-- Any word is below a divisor other than 0 times 65536, so that the quotient of IDIV fits. -/
theorem toNat_lt_mul_of_ne_zero (x : Word) (h : d ≠ 0) : x.toNat < d.toNat * 65536 := by
  bv_omega

/-! ### IDIV -/

theorem idivResult_eq_ofNat (x d : Word) :
    idivResult x d = (BitVec.ofNat 16 (x.toNat / d.toNat), BitVec.ofNat 16 (x.toNat % d.toNat)) := by
  rw [idivResult, ← BitVec.toNat_udiv, ← BitVec.toNat_umod, BitVec.ofNat_toNat, BitVec.ofNat_toNat,
    BitVec.setWidth_eq, BitVec.setWidth_eq]

/-- IDIV by a divisor other than 0 (43_multiply_divide.md R302). -/
theorem exec_idiv_of_ne_zero (h : s.ix ≠ 0) :
    exec .idiv s = .next (((s.setIx (BitVec.ofNat 16 (s.d.toNat / s.ix.toNat))).setD
      (BitVec.ofNat 16 (s.d.toNat % s.ix.toNat))).setCcr
        { s.ccr with z := decide (s.d.toNat < s.ix.toNat), v := false, c := false }) := by
  have hz := quotient_beq_zero (toNat_lt_mul_of_ne_zero s.d h)
  rw [exec, execIdiv, beq_false_of_ne h, cond_false, idivResult_eq_ofNat, hz]

/-- IDIV by 0 leaves the next free word in D (43_multiply_divide.md R302, 93_implementation_defined.md U2). -/
theorem exec_idiv_of_eq_zero (h : s.ix = 0) :
    exec .idiv s = .next ((((s.setIx 0xFFFF).setD (Config.freeWord s.draws)).setCcr
      { s.ccr with z := false, v := false, c := true }).setDraws (s.draws + 1)) := by
  rw [exec, execIdiv, h, beq_self_eq_true, cond_true]
  rfl

/-! ### FDIV -/

/-- FDIV of a dividend below the divisor; the fraction is 0 for the dividend 0 alone (43_multiply_divide.md R303). -/
theorem exec_fdiv_of_lt (h : s.d.toNat < s.ix.toNat) :
    exec .fdiv s = .next (((s.setIx (BitVec.ofNat 16 (s.d.toNat * 65536 / s.ix.toNat))).setD
      (BitVec.ofNat 16 (s.d.toNat * 65536 % s.ix.toNat))).setCcr
        { s.ccr with z := decide (s.d = 0), v := false, c := false }) := by
  have hfits : s.d.toNat * 65536 < s.ix.toNat * 65536 := Nat.mul_lt_mul_of_pos_right h (by decide)
  have hzero : s.d.toNat * 65536 < s.ix.toNat ↔ s.d = 0 := by bv_omega
  rw [exec, execFdiv, decide_eq_true h, cond_true, fdivResult, quotient_beq_zero hfits, decide_eq_decide.2 hzero]

/-- FDIV by a divisor not above the dividend leaves the next free word in D (43_multiply_divide.md R303,
93_implementation_defined.md U3). -/
theorem exec_fdiv_of_le (h : s.ix.toNat ≤ s.d.toNat) :
    exec .fdiv s = .next ((((s.setIx 0xFFFF).setD (Config.freeWord s.draws)).setCcr
      { s.ccr with z := false, v := true, c := decide (s.ix = 0) }).setDraws (s.draws + 1)) := by
  rw [exec, execFdiv, decide_eq_false h.not_gt, cond_false]
  rfl

/-! ### The statements -/

/-- Settles O46: both divisions leave the words of a quotient that fits and of its remainder. -/
theorem divisionIdentity : Obligations.DivisionIdentity := by
  intro s t
  constructor
  · intro hexec hix
    have ht := Host.Outcome.next.inj (hexec.symm.trans (exec_idiv_of_ne_zero hix))
    exact divided_identity (toNat_lt_mul_of_ne_zero s.d hix) ht
  · intro hexec hlt
    have ht := Host.Outcome.next.inj (hexec.symm.trans (exec_fdiv_of_lt hlt))
    exact divided_identity (Nat.mul_lt_mul_of_pos_right hlt (by decide)) ht

/-- Settles O45: MUL, and each division on its two sides of the divisor. -/
theorem multiplyDivide : Obligations.MultiplyDivide := fun s =>
  ⟨exec_mul s, exec_idiv_of_ne_zero, exec_idiv_of_eq_zero, exec_fdiv_of_lt, exec_fdiv_of_le⟩

end Sys2Proof.Machine
end

section
/-! PROOF. Logic and bits: AND, EOR, OR and BIT on an accumulator, BCLR and BSET on a byte of memory (44_logic_bits.md R311 to
R318, R322, R323), each an instance of its shape with the flags of LOGIC8 (10_state.md R43). -/

namespace Sys2Proof.Machine

variable {s : State} {m : Addr} {v : Byte}

/-! ### Accumulators -/

/-- Settles O47: each form is its bit operation of accumulator and operand; the bit tests keep the flags alone. -/
theorem logic : Obligations.Logic := by
  intro s src m h
  simp only [← logic8_eq_moved8]
  exact ⟨finish_accOp h, finish_accOp h, finish_accTest h, finish_accTest h, finish_accOp h, finish_accOp h,
    finish_accOp h, finish_accOp h⟩

/-! ### A byte of memory under a mask -/

/-- BCLR stores M AND (NOT mm), the overbar restored (44_logic_bits.md R322, 90_conflicts.md C4). -/
theorem exec_bclr_of_read8 (mm : Byte) (h : s.read8 (s.ea m) = .ok v) :
    exec (.bclr m mm) s = .next (((s.afterRead (s.ea m)).stored (s.ea m) (v &&& ~~~mm)).setCcr
      (Spec.moved8 (v &&& ~~~mm) s.ccr)) := by
  rw [← logic8_eq_moved8]
  exact finish_memUnary h

/-- BSET stores M OR mm (44_logic_bits.md R323). -/
theorem exec_bset_of_read8 (mm : Byte) (h : s.read8 (s.ea m) = .ok v) :
    exec (.bset m mm) s = .next (((s.afterRead (s.ea m)).stored (s.ea m) (v ||| mm)).setCcr
      (Spec.moved8 (v ||| mm) s.ccr)) := by
  rw [← logic8_eq_moved8]
  exact finish_memUnary h

/-- Inside the width, the complement of the mask is its bits inverted. -/
theorem getLsbD_and_not {w k : Nat} (x mask : BitVec w) (hk : k < w) :
    (x &&& ~~~mask).getLsbD k = (x.getLsbD k && !mask.getLsbD k) := by
  rw [BitVec.getLsbD_and, BitVec.getLsbD_not, decide_eq_true hk, Bool.true_and]

/-- Settles O48: BCLR takes the bits of the complemented mask, BSET adds those of the mask. -/
theorem bitSetAndClear : Obligations.BitSetAndClear := fun _ _ mm v h =>
  ⟨⟨v &&& ~~~mm, exec_bclr_of_read8 mm h, fun _ hk => getLsbD_and_not v mm hk⟩,
    ⟨v ||| mm, exec_bset_of_read8 mm h, fun _ _ => BitVec.getLsbD_or⟩⟩

end Sys2Proof.Machine
end

section
/-! PROOF. Shifts and rotates: the operations of 45_shift_rotate.md R330 as doubling and halving, with the flags of
10_state.md R44, and the rotates as turns of the nine bits that C and a byte make. -/

namespace Sys2Proof.Machine

variable {s : State}

/-! ### The flags, and the bits that leave -/

/-- SHIFTFLAGS8 over the natural numbers (10_state.md R44). -/
theorem shiftFlags8_eq_shifted8 (r : Byte) (out : Bool) (f : CCR) : shiftFlags8 r out f = Spec.shifted8 r out f := by
  rw [shiftFlags8, nz8_eq_signZero8, BitVec.msb_eq_decide]
  rfl

/-- SHIFTFLAGS16 over the natural numbers (10_state.md R44). -/
theorem shiftFlags16_eq_shifted16 (r : Word) (out : Bool) (f : CCR) :
    shiftFlags16 r out f = Spec.shifted16 r out f := by
  rw [shiftFlags16, nz16_eq_signZero16, BitVec.msb_eq_decide]
  rfl

/-- The bit that a right shift drops says that the number is odd. -/
theorem getLsbD_zero_eq_odd {w : Nat} (x : BitVec w) : x.getLsbD 0 = decide (x.toNat % 2 = 1) :=
  Nat.testBit_zero x.toNat

/-! ### The results are the numbers doubled and halved -/

theorem shiftLeft_one_eq_double {w : Nat} (x : BitVec w) : x <<< 1 = BitVec.ofNat w (2 * x.toNat) := by
  apply BitVec.eq_of_toNat_eq
  rw [BitVec.toNat_shiftLeft, BitVec.toNat_ofNat, Nat.shiftLeft_eq, pow_one, mul_comm]

theorem ushiftRight_one_eq_half {w : Nat} (x : BitVec w) : x >>> 1 = BitVec.ofNat w (x.toNat / 2) := by
  have hfits : x.toNat / 2 < 2 ^ w := (Nat.div_le_self _ _).trans_lt x.isLt
  apply BitVec.eq_of_toNat_eq
  rw [BitVec.toNat_ushiftRight, BitVec.toNat_ofNat, Nat.mod_eq_of_lt hfits, Nat.shiftRight_eq_div_pow, pow_one]

/-- The shift that keeps the sign rounds toward minus infinity (45_shift_rotate.md R335). -/
theorem sshiftRight_one_eq_half {w : Nat} (x : BitVec w) : x.sshiftRight 1 = BitVec.ofInt w (x.toInt / 2) := by
  rw [← BitVec.ofInt_toInt (x := x.sshiftRight 1), BitVec.toInt_sshiftRight, Int.shiftRight_eq_div_pow]
  rfl

/-- The carry enters the place that doubling leaves free. -/
theorem rotatedLeft_eq_ofNat (x : Byte) (c : Bool) :
    x <<< 1 ||| bitByte c = BitVec.ofNat 8 (2 * x.toNat + c.toNat) := by
  have hc : c.toNat < 2 ^ 1 := c.toNat_lt
  have hdouble : 2 * x.toNat % 256 = 2 ^ 1 * (x.toNat % 128) := by omega
  apply BitVec.eq_of_toNat_eq
  rw [BitVec.toNat_or, shiftLeft_one_eq_double, bitByte_eq_ofNat]
  simp only [BitVec.toNat_ofNat, Nat.reducePow] at hc ⊢
  rw [hdouble, Nat.mod_eq_of_lt (by omega : c.toNat < 256), ← Nat.two_pow_add_eq_or_of_lt hc]
  omega

/-- The carry enters the top place, worth 128, which halving leaves free. -/
theorem rotatedRight_eq_ofNat (x : Byte) (c : Bool) :
    x >>> 1 ||| bitByte c <<< 7 = BitVec.ofNat 8 (x.toNat / 2 + 128 * c.toNat) := by
  have hhalf : x.toNat / 2 < 2 ^ 7 := by have := x.isLt; omega
  have hc := c.toNat_le
  have htop : (bitByte c <<< 7).toNat = 2 ^ 7 * c.toNat := by cases c <;> rfl
  apply BitVec.eq_of_toNat_eq
  rw [BitVec.toNat_or, BitVec.toNat_ushiftRight, Nat.shiftRight_eq_div_pow, htop, Nat.lor_comm, pow_one,
    ← Nat.two_pow_add_eq_or_of_lt hhalf, BitVec.toNat_ofNat, Nat.mod_eq_of_lt (by omega), add_comm]

/-! ### The operations over the integers -/

/-- ASL8 over the natural numbers (45_shift_rotate.md R330). -/
theorem asl8_eq_aslByte (x : Byte) (f : CCR) : asl8 x f = Spec.aslByte x f := by
  simp only [asl8, Spec.aslByte, shiftLeft_one_eq_double, shiftFlags8_eq_shifted8, BitVec.msb_eq_decide]

/-- ASR8 over the integers (45_shift_rotate.md R330). -/
theorem asr8_eq_asrByte (x : Byte) (f : CCR) : asr8 x f = Spec.asrByte x f := by
  simp only [asr8, Spec.asrByte, sshiftRight_one_eq_half, shiftFlags8_eq_shifted8, getLsbD_zero_eq_odd]

/-- LSR8 over the natural numbers (45_shift_rotate.md R330). -/
theorem lsr8_eq_lsrByte (x : Byte) (f : CCR) : lsr8 x f = Spec.lsrByte x f := by
  simp only [lsr8, Spec.lsrByte, ushiftRight_one_eq_half, shiftFlags8_eq_shifted8, getLsbD_zero_eq_odd]

/-- ROL8 over the natural numbers (45_shift_rotate.md R330). -/
theorem rol8_eq_rolByte (x : Byte) (f : CCR) : rol8 x f = Spec.rolByte x f := by
  simp only [rol8, Spec.rolByte, rotatedLeft_eq_ofNat, shiftFlags8_eq_shifted8, BitVec.msb_eq_decide]

/-- ROR8 over the natural numbers (45_shift_rotate.md R330). -/
theorem ror8_eq_rorByte (x : Byte) (f : CCR) : ror8 x f = Spec.rorByte x f := by
  simp only [ror8, Spec.rorByte, rotatedRight_eq_ofNat, shiftFlags8_eq_shifted8, getLsbD_zero_eq_odd]

/-- ASL16 over the natural numbers (45_shift_rotate.md R330). -/
theorem asl16_eq_aslWord (x : Word) (f : CCR) : asl16 x f = Spec.aslWord x f := by
  simp only [asl16, Spec.aslWord, shiftLeft_one_eq_double, shiftFlags16_eq_shifted16, BitVec.msb_eq_decide]

/-- LSR16 over the natural numbers (45_shift_rotate.md R330). -/
theorem lsr16_eq_lsrWord (x : Word) (f : CCR) : lsr16 x f = Spec.lsrWord x f := by
  simp only [lsr16, Spec.lsrWord, ushiftRight_one_eq_half, shiftFlags16_eq_shifted16, getLsbD_zero_eq_odd]

/-- Settles O49: each form is its operation of R330 on A, B or D. -/
theorem registerShifts : Obligations.RegisterShifts := by
  intro s
  simp only [← asl8_eq_aslByte, ← asr8_eq_asrByte, ← lsr8_eq_lsrByte, ← rol8_eq_rolByte, ← ror8_eq_rorByte,
    ← asl16_eq_aslWord, ← lsr16_eq_lsrWord]
  exact ⟨rfl, rfl, rfl, rfl, rfl, rfl, rfl, rfl, rfl, rfl, rfl, rfl, rfl, rfl, rfl⟩

/-- Settles O50: each form is the read-modify-write of the same operation. -/
theorem memoryShifts : Obligations.MemoryShifts := by
  intro s m v h
  simp only [← asl8_eq_aslByte, ← asr8_eq_asrByte, ← lsr8_eq_lsrByte, ← rol8_eq_rolByte, ← ror8_eq_rorByte]
  exact ⟨finish_memUnary h, finish_memUnary h, finish_memUnary h, finish_memUnary h, finish_memUnary h,
    finish_memUnary h⟩

/-! ### The ring of nine bits -/

/-- The nine bits that a rotate of an accumulator turns: the accumulator at the places 0 to 7, and C at the place 8. -/
def State.ring (s : State) (r : Acc) (k : Fin 9) : Bool := if k = 8 then s.ccr.c else (s.acc r).getLsbD k

theorem ring_eight (s : State) (r : Acc) : s.ring r 8 = s.ccr.c := if_pos rfl

theorem ring_castSucc (s : State) (r : Acc) (k : Fin 8) : s.ring r k.castSucc = (s.acc r).getLsbD k :=
  if_neg k.castSucc_lt_last.ne

/-- The ring determines the accumulator and C. -/
theorem acc_and_carry_of_ring {t : State} {r : Acc} (h : t.ring r = s.ring r) :
    t.acc r = s.acc r ∧ t.ccr.c = s.ccr.c := by
  refine ⟨BitVec.eq_of_getLsbD_eq fun k hk => ?_, ?_⟩
  · rw [← ring_castSucc t r ⟨k, hk⟩, h, ring_castSucc]
  · rw [← ring_eight t r, h, ring_eight]

theorem accUnary_acc (s : State) (r : Acc) (op : Byte → CCR → Byte × CCR) :
    (s.accUnary r op).acc r = (op (s.acc r) s.ccr).1 := by
  cases r <;> rfl

theorem accUnary_ccr (s : State) (r : Acc) (op : Byte → CCR → Byte × CCR) :
    (s.accUnary r op).ccr = (op (s.acc r) s.ccr).2 := rfl

/-- An operation on one accumulator keeps the other. -/
theorem accUnary_acc_other {r q : Acc} (h : q ≠ r) (s : State) (op : Byte → CCR → Byte × CCR) :
    (s.accUnary r op).acc q = s.acc q :=
  s.setAcc_acc_other h _

/-! ### Rotates turn the ring -/

/-- The operation moves each bit of the ring `d` places up, past the place 8 to the place 0. -/
def Turns (op : Byte → CCR → Byte × CCR) (d : Fin 9) : Prop :=
  ∀ (r : Acc) (s : State) (k : Fin 9), (s.accUnary r op).ring r (k + d) = s.ring r k

theorem getLsbD_bitByte (c : Bool) (k : Nat) : (bitByte c).getLsbD k = (decide (k = 0) && c) := by
  cases c <;> simp [bitByte, BitVec.getLsbD_one]

/-- Rotating left, bit 7 goes to C and C to bit 0 (45_shift_rotate.md R330). -/
theorem turns_rol8 : Turns rol8 1 := by
  intro r s k
  simp only [State.ring, accUnary_acc, accUnary_ccr, rol8, shiftFlags8, BitVec.msb_eq_getLsbD_last, BitVec.getLsbD_or,
    BitVec.getLsbD_shiftLeft, getLsbD_bitByte]
  fin_cases k <;> simp

/-- Rotating right, bit 0 goes to C and C to bit 7: as far as eight turns left (45_shift_rotate.md R330). -/
theorem turns_ror8 : Turns ror8 8 := by
  intro r s k
  simp only [State.ring, accUnary_acc, accUnary_ccr, ror8, shiftFlags8, BitVec.getLsbD_or, BitVec.getLsbD_ushiftRight,
    BitVec.getLsbD_shiftLeft, getLsbD_bitByte]
  fin_cases k <;> simp

/-! ### Nine turns -/

/-- An instruction that always goes on does so as often as it is executed. -/
theorem execTimes_of_next {i : Instr} {g : State → State} (h : ∀ s, exec i s = .next (g s)) (n : Nat) (s : State) :
    execTimes n i s = .next (g^[n] s) := by
  induction n generalizing s with
  | zero => rfl
  | succ n ih => rw [execTimes, h, Function.iterate_succ_apply, ← ih]

theorem iterate_accUnary_acc_other {r q : Acc} (h : q ≠ r) (op : Byte → CCR → Byte × CCR) (n : Nat) (s : State) :
    ((State.accUnary · r op)^[n] s).acc q = s.acc q := by
  induction n with
  | zero => rfl
  | succ n ih => rw [Function.iterate_succ_apply', accUnary_acc_other h, ih]

theorem iterate_accUnary_ring {op : Byte → CCR → Byte × CCR} {d : Fin 9} (h : Turns op d) (r : Acc) (n : Nat)
    (s : State) (k : Fin 9) : ((State.accUnary · r op)^[n] s).ring r (k + n • d) = s.ring r k := by
  induction n with
  | zero => rw [zero_nsmul, add_zero, Function.iterate_zero_apply]
  | succ n ih => rw [succ_nsmul, ← add_assoc, Function.iterate_succ_apply', h, ih]

/-- Turned nine times by the same number of places, every bit is back at its place. -/
theorem ring_after_nine_turns {op : Byte → CCR → Byte × CCR} {d : Fin 9} (h : Turns op d) (r : Acc) (s : State) :
    ((State.accUnary · r op)^[9] s).ring r = s.ring r := by
  have hround : ∀ d : Fin 9, 9 • d = 0 := by decide
  funext k
  rw [← iterate_accUnary_ring h r 9 s k, hround, add_zero]

theorem execTimes_nine_of_turns {i : Instr} {r : Acc} {op : Byte → CCR → Byte × CCR} {d : Fin 9} (h : Turns op d)
    (hexec : ∀ s, exec i s = .next (s.accUnary r op)) (s : State) :
    ∃ t, execTimes 9 i s = .next t ∧ t.a = s.a ∧ t.b = s.b ∧ t.ccr.c = s.ccr.c := by
  obtain ⟨hacc, hcarry⟩ := acc_and_carry_of_ring (ring_after_nine_turns h r s)
  have hall : ∀ q, ((State.accUnary · r op)^[9] s).acc q = s.acc q := fun q =>
    if hq : q = r then hq ▸ hacc else iterate_accUnary_acc_other hq op 9 s
  exact ⟨_, execTimes_of_next hexec 9 s, hall .a, hall .b, hcarry⟩

/-- Settles O51: the rotates turn the ring of nine bits, left or right, so nine of them are a whole turn. -/
theorem nineRotates : Obligations.NineRotates := by
  intro s i hi
  simp only [List.mem_cons, List.not_mem_nil, or_false] at hi
  rcases hi with rfl | rfl | rfl | rfl
  · exact execTimes_nine_of_turns turns_rol8 (r := .a) (fun _ => rfl) s
  · exact execTimes_nine_of_turns turns_rol8 (r := .b) (fun _ => rfl) s
  · exact execTimes_nine_of_turns turns_ror8 (r := .a) (fun _ => rfl) s
  · exact execTimes_nine_of_turns turns_ror8 (r := .b) (fun _ => rfl) s

end Sys2Proof.Machine
end

section
/-! PROOF. Branches: each relative branch is `branchIf` of its condition (46_branch.md R360 to R378); what the conditions say
after a comparison (R360(f)), which of them are opposite (R360(e)), and the branches on the bits of a byte (R379, R380). -/

namespace Sys2Proof.Machine

variable {s t u : State}

/-! ### The target, and when a branch is taken -/

/-- `sx(rr)` adds the offset to a negative one as 65536 less (30_encoding.md R110). -/
theorem sext_toNat (rr : Byte) : (sext rr).toNat = if rr.toNat < 128 then rr.toNat else rr.toNat + 65280 := by
  rw [sext, BitVec.toNat_signExtend, BitVec.toNat_setWidth_of_le (by omega), BitVec.msb_eq_decide]
  by_cases h : rr.toNat < 128
  · simp [h]
  · simp [h, Nat.le_of_not_lt h]

theorem relTarget_eq_branchTarget (s : State) (rr : Byte) : s.relTarget rr = Spec.branchTarget s.pc rr := by
  rw [State.relTarget, Spec.branchTarget, ← sext_toNat, BitVec.ofNat_add, BitVec.ofNat_toNat, BitVec.ofNat_toNat,
    BitVec.setWidth_eq, BitVec.setWidth_eq]

/-- An instruction that ends in `branchIf` is a branch under any proposition that says the same as its condition. -/
theorem takenAfter_of_branchIf {branch : Byte → Instr} {c : Bool} {p : Prop} (hpc : t.pc = s.pc)
    (hexec : ∀ rr, exec (branch rr) s = .next (t.branchIf c rr)) (hc : c = true ↔ p) : Spec.TakenAfter s t branch p := by
  intro rr
  rw [hexec, ← hc, ← hpc, ← relTarget_eq_branchTarget]
  cases c with
  | true => exact ⟨fun _ => rfl, fun h => absurd rfl h⟩
  | false => exact ⟨nofun, fun _ => rfl⟩

theorem takenWhen_of_branchIf {branch : Byte → Instr} {c : Bool} {p : Prop}
    (hexec : ∀ rr, exec (branch rr) s = .next (s.branchIf c rr)) (hc : c = true ↔ p) : Spec.TakenWhen s branch p :=
  takenAfter_of_branchIf rfl hexec hc

theorem takenAfter_congr {branch : Byte → Instr} {p q : Prop} (h : Spec.TakenAfter s t branch p) (hpq : p ↔ q) :
    Spec.TakenAfter s t branch q :=
  propext hpq ▸ h

theorem takenWhen_congr {branch : Byte → Instr} {p q : Prop} (h : Spec.TakenWhen s branch p) (hpq : p ↔ q) :
    Spec.TakenWhen s branch q :=
  takenAfter_congr h hpq

theorem takenWhen_of_flag_clear {branch : Byte → Instr} {flag : Bool}
    (hexec : ∀ rr, exec (branch rr) s = .next (s.branchIf (!flag) rr)) : Spec.TakenWhen s branch (flag = false) :=
  takenWhen_of_branchIf hexec (iff_of_eq (Bool.not_eq_true' flag))

theorem takenWhen_of_flag_set {branch : Byte → Instr} {flag : Bool}
    (hexec : ∀ rr, exec (branch rr) s = .next (s.branchIf flag rr)) : Spec.TakenWhen s branch (flag = true) :=
  takenWhen_of_branchIf hexec Iff.rfl

/-- Settles O52: half of the branches test one flag, the others a formula of two or three (46_branch.md R360). -/
theorem branches : Obligations.Branches := fun s =>
  ⟨takenWhen_of_flag_clear fun _ => rfl,
    takenWhen_of_flag_set fun _ => rfl,
    takenWhen_of_flag_set fun _ => rfl,
    takenWhen_of_branchIf (fun _ => rfl) (by simp),
    takenWhen_of_branchIf (fun _ => rfl) (by simp),
    takenWhen_of_branchIf (fun _ => rfl) (by simp),
    takenWhen_of_flag_clear fun _ => rfl,
    takenWhen_of_branchIf (fun _ => rfl) (by simp),
    takenWhen_of_flag_set fun _ => rfl,
    takenWhen_of_branchIf (fun _ => rfl) (by simp),
    takenWhen_of_branchIf (fun _ => rfl) (by simp),
    takenWhen_of_flag_set fun _ => rfl,
    takenWhen_of_flag_clear fun _ => rfl,
    takenWhen_of_flag_clear fun _ => rfl,
    takenWhen_of_branchIf (fun _ => rfl) (by simp),
    takenWhen_of_branchIf (fun _ => rfl) (by simp),
    takenWhen_of_flag_clear fun _ => rfl,
    takenWhen_of_flag_set fun _ => rfl⟩

/-! ### The branches on bits of memory -/

/-- A byte and a mask have no bit in common when every bit that the mask selects is 0. -/
theorem and_beq_zero_iff {w : Nat} (x mask : BitVec w) :
    (x &&& mask == 0) = true ↔ ∀ k < w, mask.getLsbD k = true → x.getLsbD k = false := by
  rw [beq_iff_eq]
  constructor
  · intro h k hk hmask
    have hbit : (x &&& mask).getLsbD k = false := by rw [h]; exact BitVec.getLsbD_zero
    rwa [BitVec.getLsbD_and, hmask, Bool.and_true] at hbit
  · intro h
    refine BitVec.eq_of_getLsbD_eq fun k hk => ?_
    cases hmask : mask.getLsbD k with
    | true => simp [h k hk hmask]
    | false => simp [hmask]

theorem not_and_beq_zero_iff {w : Nat} (x mask : BitVec w) :
    (~~~x &&& mask == 0) = true ↔ ∀ k < w, mask.getLsbD k = true → x.getLsbD k = true := by
  rw [and_beq_zero_iff]
  refine forall₂_congr fun k hk => ?_
  rw [BitVec.getLsbD_not, decide_eq_true hk, Bool.true_and, Bool.not_eq_false']

/-- BRCLR branches when M AND mm is 0 (46_branch.md R379). -/
theorem exec_brclr_of_read8 {m : Addr} {v : Byte} (mm rr : Byte) (h : s.read8 (s.ea m) = .ok v) :
    exec (.brclr m mm rr) s = .next ((s.afterRead (s.ea m)).branchIf (v &&& mm == 0) rr) := by
  simp only [exec, execBrclr, h, ok_bind, finish_ok]

/-- BRSET branches when (NOT M) AND mm is 0 (46_branch.md R380). -/
theorem exec_brset_of_read8 {m : Addr} {v : Byte} (mm rr : Byte) (h : s.read8 (s.ea m) = .ok v) :
    exec (.brset m mm rr) s = .next ((s.afterRead (s.ea m)).branchIf (~~~v &&& mm == 0) rr) := by
  simp only [exec, execBrset, h, ok_bind, finish_ok]

/-- Settles O55: the conditions of BRCLR and BRSET, read bit by bit. -/
theorem bitBranches : Obligations.BitBranches := fun s m mm v h =>
  ⟨takenAfter_of_branchIf (s.afterRead_pc (s.ea m)) (fun rr => exec_brclr_of_read8 mm rr h) (and_beq_zero_iff v mm),
    takenAfter_of_branchIf (s.afterRead_pc (s.ea m)) (fun rr => exec_brset_of_read8 mm rr h) (not_and_beq_zero_iff v mm)⟩

/-! ### Complementary pairs -/

theorem complementaryAfter_of_iff_not {i j : Byte → Instr} {p q : Prop} (hi : Spec.TakenAfter s t i p)
    (hj : Spec.TakenAfter s t j q) (h : q ↔ ¬ p) : Spec.ComplementaryAfter s t i j :=
  ⟨p, hi, takenAfter_congr hj h⟩

/-- The mask of one bit selects that bit alone. -/
theorem forall_selected_by_one_bit {w k : Nat} (hk : k < w) (P : Nat → Prop) :
    (∀ j < w, (BitVec.ofNat w (2 ^ k)).getLsbD j = true → P j) ↔ P k := by
  have hbit : ∀ j < w, ((BitVec.ofNat w (2 ^ k)).getLsbD j = true ↔ k = j) := fun j hj => by
    rw [BitVec.getLsbD_ofNat, decide_eq_true hj, Bool.true_and, Nat.testBit_two_pow, decide_eq_true_eq]
  constructor
  · exact fun h => h k hk ((hbit k hk).2 rfl)
  · exact fun h j hj hmask => (hbit j hj).1 hmask ▸ h

theorem bitBranches_one_bit {m : Addr} {v : Byte} {k : Nat} (hk : k < 8) (h : s.read8 (s.ea m) = .ok v) :
    Spec.ComplementaryAfter s (s.afterRead (s.ea m)) (.brclr m (BitVec.ofNat 8 (2 ^ k)))
      (.brset m (BitVec.ofNat 8 (2 ^ k))) := by
  obtain ⟨hclr, hset⟩ := bitBranches s m (BitVec.ofNat 8 (2 ^ k)) v h
  rw [forall_selected_by_one_bit hk (v.getLsbD · = false)] at hclr
  rw [forall_selected_by_one_bit hk (v.getLsbD · = true)] at hset
  exact complementaryAfter_of_iff_not hclr hset (iff_of_eq (Bool.not_eq_false _)).symm

/-- Settles O54: in each pair the two conditions of O52, or of O55 on one bit, are opposite. -/
theorem complementaryBranches : Obligations.ComplementaryBranches := by
  intro s
  obtain ⟨bcc, bcs, beq, bge, bgt, bhi, bhs, ble, blo, bls, blt, bmi, bne, bpl, bra, brn, bvc, bvs⟩ := branches s
  refine ⟨complementaryAfter_of_iff_not bcc bcs (by simp),
    complementaryAfter_of_iff_not beq bne (by simp),
    complementaryAfter_of_iff_not bge blt Iff.rfl,
    complementaryAfter_of_iff_not bgt ble ?_,
    complementaryAfter_of_iff_not bhi bls ?_,
    complementaryAfter_of_iff_not bhs blo (by simp),
    complementaryAfter_of_iff_not bmi bpl (by simp),
    complementaryAfter_of_iff_not bra brn (by simp),
    complementaryAfter_of_iff_not bvc bvs (by simp),
    fun _ _ _ hk h => bitBranches_one_bit hk h⟩
  · rw [not_and_or, Bool.not_eq_false]
  · rw [not_and_or, Bool.not_eq_false, Bool.not_eq_false]

/-! ### After a comparison -/

/-- Flags that order two numbers: Z says equal, C below as unsigned, N xor V less as signed (46_branch.md R360(f)). -/
structure CCR.Orders {w : Nat} (f : CCR) (a m : BitVec w) : Prop where
  equal : f.z = true ↔ a = m
  below : f.c = true ↔ a.toNat < m.toNat
  less : f.n ≠ f.v ↔ a.toInt < m.toInt

/-- The sign of a difference, corrected by its overflow, is the sign of the exact difference. -/
theorem sign_ne_overflow_iff {w : Nat} {a m r : BitVec (w + 1)} (hr : r = a - m) :
    r.msb ≠ (a.msb && !m.msb && !r.msb || !a.msb && m.msb && r.msb) ↔ a.toInt < m.toInt := by
  have ha : -2 ^ w ≤ a.toInt ∧ a.toInt < 2 ^ w := ⟨a.le_toInt, a.toInt_lt⟩
  have hm : -2 ^ w ≤ m.toInt ∧ m.toInt < 2 ^ w := ⟨m.le_toInt, m.toInt_lt⟩
  have hexact : r = BitVec.ofInt (w + 1) (a.toInt - m.toInt) := by
    rw [hr, ofInt_sub, BitVec.ofInt_toInt, BitVec.ofInt_toInt]
  have hv := difference_overflow (a := a) (m := m) (r := r) (c := false) (by simpa using hexact)
  have hn : r.msb = decide (a.toInt - m.toInt < 0 ↔ -2 ^ w ≤ a.toInt - m.toInt ∧ a.toInt - m.toInt < 2 ^ w) := by
    rw [hexact]
    exact msb_ofInt (by omega) (by omega)
  rw [hv, hn, Bool.toNat_false, Nat.cast_zero, sub_zero, Ne, decide_eq_decide]
  omega

/-- The flags that SUB8 and SUB16 share order the operands (10_state.md R40, R42). -/
theorem orders_of_difference {w : Nat} {a m r : BitVec (w + 1)} {f : CCR} (hr : r = a - m) (hn : f.n = r.msb)
    (hz : f.z = (r == 0)) (hv : f.v = (a.msb && !m.msb && !r.msb || !a.msb && m.msb && r.msb))
    (hc : f.c = decide (a.toNat < m.toNat)) : f.Orders a m where
  equal := by rw [hz, hr, beq_iff_eq]; exact sub_eq_zero
  below := by rw [hc, decide_eq_true_eq]
  less := by rw [hn, hv, sign_ne_overflow_iff hr]

theorem orders_sub8 (a m : Byte) (f : CCR) : (sub8 a m false f).2.Orders a m :=
  orders_of_difference (BitVec.sub_zero (a - m)) rfl rfl rfl rfl

theorem orders_sub16 (a m : Word) (f : CCR) : (sub16 a m f).2.Orders a m :=
  orders_of_difference rfl rfl rfl rfl rfl

theorem orders_of_exec_cmpa {src : Src8} {m : Byte} (h : s.opnd8 src = .ok m) (hexec : exec (.cmpa src) s = .next u) :
    u.ccr.Orders s.a m := by
  cases (finish_accTest h).symm.trans hexec
  exact orders_sub8 s.a m s.ccr

theorem orders_of_exec_cpx {src : Src16} {m : Word} (h : s.opnd16 src = .ok m) (hexec : exec (.cpx src) s = .next u) :
    u.ccr.Orders s.ix m := by
  cases (finish_regTest h).symm.trans hexec
  exact orders_sub16 s.ix m s.ccr

/-- In a state whose flags order two numbers, the branches test the order that their names say. -/
theorem branches_of_orders {w : Nat} {a m : BitVec w} (h : u.ccr.Orders a m) :
    Spec.TakenWhen u .beq (a = m) ∧
    Spec.TakenWhen u .bne (a ≠ m) ∧
    Spec.TakenWhen u .bhi (a.toNat > m.toNat) ∧
    Spec.TakenWhen u .bhs (a.toNat ≥ m.toNat) ∧
    Spec.TakenWhen u .blo (a.toNat < m.toNat) ∧
    Spec.TakenWhen u .bls (a.toNat ≤ m.toNat) ∧
    Spec.TakenWhen u .bgt (a.toInt > m.toInt) ∧
    Spec.TakenWhen u .bge (a.toInt ≥ m.toInt) ∧
    Spec.TakenWhen u .blt (a.toInt < m.toInt) ∧
    Spec.TakenWhen u .ble (a.toInt ≤ m.toInt) := by
  obtain ⟨-, -, beq, bge, bgt, bhi, bhs, ble, blo, bls, blt, -, bne, -⟩ := branches u
  obtain ⟨equal, below, less⟩ := h
  have different : u.ccr.z = false ↔ a ≠ m := by rw [← Bool.not_eq_true, equal]
  have notBelow : u.ccr.c = false ↔ ¬ a.toNat < m.toNat := by rw [← Bool.not_eq_true, below]
  have notLess : u.ccr.n = u.ccr.v ↔ ¬ a.toInt < m.toInt := by rw [← less, not_not]
  refine ⟨takenWhen_congr beq equal, takenWhen_congr bne different, takenWhen_congr bhi ?_,
    takenWhen_congr bhs (notBelow.trans not_lt), takenWhen_congr blo below, takenWhen_congr bls ?_,
    takenWhen_congr bgt ?_, takenWhen_congr bge (notLess.trans not_lt), takenWhen_congr blt less,
    takenWhen_congr ble ?_⟩
  · rw [notBelow, different, Ne, ← BitVec.toNat_inj]
    omega
  · rw [below, equal, ← BitVec.toNat_inj, Nat.le_iff_lt_or_eq]
  · rw [different, notLess, Ne, ← BitVec.toInt_inj]
    omega
  · rw [equal, less, ← BitVec.toInt_inj]
    omega

/-- Settles O53: CMPA and CPX leave flags that order their operands. -/
theorem branchesAfterCompare : Obligations.BranchesAfterCompare :=
  ⟨fun _ _ _ _ h hexec => branches_of_orders (orders_of_exec_cmpa h hexec),
    fun _ _ _ _ h hexec => branches_of_orders (orders_of_exec_cpx h hexec)⟩

end Sys2Proof.Machine
end

section
/-! PROOF. Jumps, flags and TEST: the instructions that move PC (47_jump_subroutine.md R391 to R394), those that write one
flag or copy CCR (48_ccr_system.md R401 to R409), and the endless TEST (R414). -/

namespace Sys2Proof.Machine

/-- RTS with its two bytes readable (47_jump_subroutine.md R394). -/
theorem exec_rts_of_read16 {s : State} {v : Word} (h : s.read16 (s.sp + 1) = .ok v) :
    exec .rts s = .next (((s.afterRead16 (s.sp + 1)).setSp (s.sp + 2)).setPc v) :=
  exec_rts_of_pull16 (pull16_eq_ok.2 ⟨v, h, rfl⟩)

/-- Settles O56: the calls are `State.callTo` at their targets, and RTS is a pull. -/
theorem jumpsAndReturns : Obligations.JumpsAndReturns := by
  refine fun s => ⟨fun _ => rfl, fun m => ?_, fun rr => ?_, fun _ => exec_rts_of_read16⟩
  · exact congrArg finish (callTo_ok (s.ea m))
  · rw [← relTarget_eq_branchTarget]
    exact congrArg finish (callTo_ok (s.relTarget rr))

/-- Settles O58: TPA's byte holds each flag at its bit (10_state.md R28). -/
theorem flagInstructions : Obligations.FlagInstructions := fun s =>
  ⟨rfl, rfl, rfl, rfl, rfl, rfl, rfl, s.ccr.toByte, rfl, s.ccr.toByte_bits⟩

/-- In the endless TEST nothing but a reset acts (48_ccr_system.md R414). -/
theorem step_of_testing {s : State} (hreset : s.presentedReset = none) (hrun : s.runState = .testing) :
    step s = .next s.present := by
  simp only [step_of_noReset hreset, State.runStep, present_runState, hrun]

/-- Settles O60: TestMode decides what TEST answers, and the state that it enters stays. -/
theorem testInstruction : Obligations.TestInstruction := by
  refine fun s => ⟨fun hmode => ?_, fun hmode => ?_, fun hrun hreset => step_of_testing hreset hrun⟩
  · rw [exec_test, hmode]
    rfl
  · rw [exec_test, if_pos hmode]

end Sys2Proof.Machine
end

section
/-! PROOF. Requests: which source of the platform's order is served (60_exceptions.md R424, R426), as a place in that
order. -/

namespace Sys2Proof.Machine

open Config

variable {s : State}

/-- A search for the first entry that wraps something with a property: what it finds stands in the list behind entries
that wrap nothing with the property. -/
theorem findSome?_eq_some_iff_first {α β : Type} {l : List α} {f : α → Option β} {wrap : β → α} {p : β → Prop}
    (hf : ∀ x b, f x = some b ↔ x = wrap b ∧ p b) {b : β} :
    l.findSome? f = some b ↔ ∃ before after, l = before ++ wrap b :: after ∧ p b ∧ ∀ c, wrap c ∈ before → ¬ p c := by
  rw [List.findSome?_eq_some_iff]
  constructor
  · rintro ⟨before, x, after, hl, hx, hnone⟩
    obtain ⟨rfl, hp⟩ := (hf x b).1 hx
    refine ⟨before, after, hl, hp, fun c hc hpc => ?_⟩
    exact Option.some_ne_none c (((hf _ c).2 ⟨rfl, hpc⟩).symm.trans (hnone _ hc))
  · rintro ⟨before, after, hl, hp, hfirst⟩
    refine ⟨before, wrap b, after, hl, (hf _ b).2 ⟨rfl, hp⟩, fun x hx => ?_⟩
    refine Option.eq_none_iff_forall_ne_some.2 fun c hc => ?_
    obtain ⟨rfl, hpc⟩ := (hf x c).1 hc
    exact hfirst c hx hpc

/-- The request served is the first of the order that stands and can be served. -/
theorem firstInterrupt_eq_some_iff {can : IntSource → Bool} {i : IntSource} :
    s.firstInterrupt can = some i ↔ ∃ before after, s.params.priority = before ++ .interrupt i :: after ∧
      .interrupt i ∈ s.pending ∧ can i = true ∧
      ∀ j, .interrupt j ∈ before → .interrupt j ∈ s.pending → can j = false := by
  refine (findSome?_eq_some_iff_first (wrap := .interrupt) (p := fun j => .interrupt j ∈ s.pending ∧ can j = true)
    fun x j => ?_).trans ?_
  · cases x with
    | interrupt k =>
      simp only [Bool.cond_eq_ite, Option.ite_none_right_eq_some, Bool.and_eq_true, decide_eq_true_eq,
        Option.some.injEq, Source.interrupt.injEq]
      exact and_comm.trans (and_congr_right fun hk => by rw [hk])
    | reset _ | illop | swi => simp
  · simp only [not_and, Bool.not_eq_true, and_assoc]

/-- The reset that acts is the first of the order that is presented. -/
theorem presentedReset_eq_some_iff {r : ResetSource} :
    s.presentedReset = some r ↔ ∃ before after, s.params.priority = before ++ .reset r :: after ∧
      s.presentsReset r = true ∧ ∀ q, .reset q ∈ before → s.presentsReset q = false := by
  refine (findSome?_eq_some_iff_first (wrap := .reset) (p := fun q => s.presentsReset q = true) fun x q => ?_).trans ?_
  · cases x with
    | reset k =>
      simp only [Bool.cond_eq_ite, Option.ite_none_right_eq_some, Option.some.injEq, Source.reset.injEq]
      exact and_comm.trans (and_congr_right fun hk => by rw [hk])
    | interrupt _ | illop | swi => simp
  · simp only [Bool.not_eq_true]

/-- The input `reset` is that of the script's head (60_exceptions.md R425). -/
theorem resetInput_eq_some_iff {r : ResetSource} :
    s.resetInput = some r ↔ ∃ e rest, s.inputs = e :: rest ∧ e.reset = some r := by
  unfold State.resetInput
  cases s.inputs <;> simp

/-- A reset is presented as the input or in the pending set (60_exceptions.md R424, R425). -/
theorem presentsReset_iff {r : ResetSource} :
    s.presentsReset r = true ↔
      (∃ e rest, s.inputs = e :: rest ∧ e.reset = some r) ∨ .reset r ∈ s.present.pending := by
  rw [State.presentsReset, Bool.or_eq_true, decide_eq_true_eq, decide_eq_true_eq, resetInput_eq_some_iff]

/-- XIRQ is masked by X, every other request by I and IDelay (60_exceptions.md R424, 10_state.md R54). -/
theorem unmasked_eq (s : State) (i : IntSource) :
    s.unmasked i = if i = .xirq then !s.ccr.x else !s.ccr.i && !s.iDelay := by
  split
  next h => rw [h, unmasked_xirq]
  next h => exact unmasked_maskable h

/-- Settles O12: the searches of the model answer the first of their places in the order. -/
theorem requestChosen : Obligations.RequestChosen := fun s i =>
  ⟨firstInterrupt_eq_some_iff, unmasked_eq s i, chosen_eq_none, fun _ => presentedReset_eq_some_iff,
    fun _ => presentsReset_iff⟩

end Sys2Proof.Machine
end

section
/-! PROOF. Entries: SWI and the interrupts take the entry of 60_exceptions.md R430, WAI and STOP part it (R436, R437), and
RTI undoes it (R432). -/

namespace Sys2Proof.Machine

open Config

variable {s t : State} {src : Source} {handler : Word} {i : IntSource}

/-! ### The entry -/

/-- What an entry answers: with the frame in RAM the handler's state, and wherever the frame lies the nine stores. -/
theorem finish_takeException (s : State) (src : Source) (handler : Word) :
    (s.FrameInRam → s.HandlerAt src handler →
      ∃ t, finish (s.takeException src) = .next t ∧ s.Entered t src handler) ∧
    (s.framed.read16 (vectorAddress s.params.vectors src) = .ok handler →
      finish (s.takeException src) = .next (s.framed.handled src handler)) := by
  refine ⟨fun hram hv => ⟨_, ?_, entered_handled hram⟩, fun hread => ?_⟩
  · rw [takeException_of_handlerAt hram hv, finish_ok]
  · rw [takeException_eq_ok.2 ⟨handler, hread, rfl⟩, finish_ok]

/-- Settles O9: SWI is the entry of its own source. -/
theorem softwareInterruptEnters : Obligations.SoftwareInterruptEnters := fun s handler =>
  finish_takeException s .swi handler

/-- In Running, and in Stopped by a source that ends STOP, a step takes the request (00_scope.md R15). -/
theorem step_of_entry (hreset : s.presentedReset = none)
    (hi : s.present.runState = .running ∧ s.present.chosen = some i ∨
      s.present.runState = .stopped ∧ s.present.chosenInStop = some i) :
    step s = finish (s.present.takeException (.interrupt i)) := by
  rw [step_of_noReset hreset]
  rcases hi with ⟨hrun, hchosen⟩ | ⟨hrun, hchosen⟩
  · simp only [State.runStep, hrun, State.runningStep, hchosen]
  · simp only [State.runStep, hrun, State.stoppedStep, hchosen]

/-- The step that takes a request is the entry of its source from the state presented. -/
theorem step_enters (hreset : s.presentedReset = none)
    (hi : s.present.runState = .running ∧ s.present.chosen = some i ∨
      s.present.runState = .stopped ∧ s.present.chosenInStop = some i) (handler : Word) :
    (s.present.FrameInRam → s.present.HandlerAt (.interrupt i) handler →
      ∃ t, step s = .next t ∧ s.present.Entered t (.interrupt i) handler) ∧
    (s.present.framed.read16 (vectorAddress s.params.vectors (.interrupt i)) = .ok handler →
      step s = .next (s.present.framed.handled (.interrupt i) handler)) := by
  rw [step_of_entry hreset hi, ← present_params s]
  exact finish_takeException s.present (.interrupt i) handler

/-- Settles O10: the chosen request is taken in Running. -/
theorem interruptEnters : Obligations.InterruptEnters := fun _ _ handler hreset hrun hchosen =>
  step_enters hreset (.inl ⟨hrun, hchosen⟩) handler

/-! ### The return -/

/-- The frame's bytes stand in the order of the pushes, from the old SP down (60_exceptions.md R430). -/
theorem State.Stacked.frameByte (h : s.Stacked t) {k : Nat} (hk : k < s.frameBytes.length) :
    t.read8 (s.sp - BitVec.ofNat 16 k) = .ok s.frameBytes[k] := by
  change k < 9 at hk
  interval_cases k
  · exact (congrArg t.read8 (BitVec.sub_zero s.sp)).trans h.pcLow
  exacts [h.pcHigh, h.iyLow, h.iyHigh, h.ixLow, h.ixHigh, h.a, h.b, h.ccr]

/-- Reads of storage leave the state as it is. -/
theorem afterReads_storage {x : Word} {n : Nat} (h : ∀ k < n, s.kind (x + BitVec.ofNat 16 k) ≠ .device) :
    s.afterReads x n = s := by
  induction n with
  | zero => rfl
  | succ n ih =>
    rw [State.afterReads, ih fun k hk => h k (hk.trans n.lt_succ_self), s.afterRead_storage (h n n.lt_succ_self)]

/-- Counted up from the byte above the new SP, the frame's addresses are those counted down from the old SP. -/
theorem frame_address_reversed (p : Word) {k : Nat} (hk : k < 9) :
    p - 9 + 1 + BitVec.ofNat 16 k = p - BitVec.ofNat 16 (8 - k) := by
  bv_omega

theorem frame_address_mem (s : State) {k : Nat} (hk : k < 9) : s.sp - BitVec.ofNat 16 k ∈ s.frameAddresses := by
  interval_cases k <;> simp [State.frameAddresses]

/-- RTI reads the bytes of a frame in the reverse order of the pushes, and no device sees it. -/
theorem State.Stacked.readNth (h : s.Stacked t) (hparams : t.params = s.params) :
    (∀ (k : Nat) (hk : k < s.frameBytes.reverse.length), t.readNth (t.sp + 1) k = .ok s.frameBytes.reverse[k]) ∧
      t.afterReads (t.sp + 1) 9 = t := by
  have haddr : ∀ k < 9, t.sp + 1 + BitVec.ofNat 16 k = s.sp - BitVec.ofNat 16 (8 - k) := fun k hk => by
    rw [h.sp, frame_address_reversed s.sp hk]
  have hstorage : ∀ k < 9, t.kind (t.sp + 1 + BitVec.ofNat 16 k) ≠ .device := fun k hk => by
    rw [haddr k hk, State.kind, hparams]
    exact h.storage _ (frame_address_mem s (by omega))
  refine ⟨fun k hk => ?_, afterReads_storage hstorage⟩
  have hnine : k < 9 := hk
  rw [State.readNth, afterReads_storage fun j hj => hstorage j (hj.trans hnine), haddr k hnine, List.getElem_reverse]
  exact h.frameByte _

/-- What RTI answers from a frame that stands in memory: the registers of the frame, and X only downward. -/
theorem exec_rti_of_stacked (h : s.Stacked t) (hparams : t.params = s.params) :
    exec .rti t = .next (((((((t.setSp s.sp).setB s.b).setA s.a).setIx s.ix).setIy s.iy).setPc s.pc).setCcr
      { s.ccr with x := t.ccr.x && s.ccr.x }) := by
  obtain ⟨hread, hafter⟩ := h.readNth hparams
  have hsp : t.sp + 9 = s.sp := by rw [h.sp, BitVec.sub_add_cancel]
  obtain ⟨_, hrti⟩ := loadingTheConditionCodes t
  rw [hrti s.ccr.toByte s.b s.a (hiByte s.ix) (loByte s.ix) (hiByte s.iy) (loByte s.iy) (hiByte s.pc) (loByte s.pc) hread,
    hafter, hsp, joinBytes_split, joinBytes_split, joinBytes_split, ← CCR.load_toByte]
  rfl

/-- Settles O11: the frame holds the registers; X, which the entry may have raised, comes back by the frame's bit. -/
theorem returnUndoesEntry : Obligations.ReturnUndoesEntry := by
  intro s t src handler h
  have hx : (t.ccr.x && s.ccr.x) = s.ccr.x := by
    rw [h.ccr, Bool.and_comm]
    exact inf_sup_self
  refine ⟨_, exec_rti_of_stacked h.stacked h.same.params, rfl, rfl, rfl, rfl, ?_, rfl, rfl, rfl, h.running, h.delay⟩
  rw [hx]
  rfl

/-! ### Waiting -/

/-- A store leaves the bytes of ROM (20_memory.md R71). -/
theorem stored_read8_rom {x : Word} (a : Word) (v : Byte) (h : s.kind x = .rom) :
    (s.stored a v).read8 x = s.read8 x := by
  by_cases hx : x = a
  · subst hx
    rw [stored_ignored v (.inl h)]
  · exact stored_read8_other v hx (.inr (by simp [h]))

theorem stores_read8_rom {x : Word} (l : List (Word × Byte)) (s : State) (h : s.kind x = .rom) :
    (l.foldl (fun t p => t.stored p.1 p.2) s).read8 x = s.read8 x := by
  induction l generalizing s with
  | nil => rfl
  | cons p l ih => rw [List.foldl_cons, ih _ (by rwa [stored_kind]), stored_read8_rom _ _ h]

/-- Stacking a frame leaves the bytes of ROM, also where the frame runs into it (20_memory.md R92). -/
theorem framed_read8_rom {x : Word} (h : s.kind x = .rom) : s.framed.read8 x = s.read8 x := by
  rw [State.framed, State.setSp_read8, stores_read8_rom _ _ h]

/-- The run state is no part of what is stacked. -/
theorem State.Stacked.setRunState (h : s.Stacked t) (r : RunState) : s.Stacked (t.setRunState r) :=
  ⟨h.sp, h.pcLow, h.pcHigh, h.iyLow, h.iyHigh, h.ixLow, h.ixHigh, h.a, h.b, h.ccr, h.storage, h.rest⟩

/-- An entry makes the machine run, whatever the run state before (60_exceptions.md R436). -/
theorem enterHandler_setRunState (s : State) (r : RunState) (src : Source) :
    (s.setRunState r).enterHandler src = s.enterHandler src := rfl

/-- Settles O13: WAI is the first part of an entry, and the handler's entry its rest. -/
theorem waitInstruction : Obligations.WaitInstruction := by
  refine fun s => ⟨exec_wai s, fun _ => framed_read8_rom, fun hram => ⟨_, exec_wai s,
    (framed_stacked hram).setRunState .waiting, ?_, ?_, ?_, ?_, rfl, fun src => ?_⟩⟩
  · constructor <;> simp
  · simp
  · simp
  · simp
  · rw [enterHandler_setRunState, takeException_eq]

theorem step_of_waiting (hreset : s.presentedReset = none) (hrun : s.present.runState = .waiting) :
    step s = s.present.waitingStep := by
  simp only [step_of_noReset hreset, State.runStep, hrun]

/-- Settles O14: the wait ends in the handler's entry alone. -/
theorem waitEnds : Obligations.WaitEnds := by
  intro s hreset hrun
  rw [step_of_waiting hreset hrun, State.waitingStep]
  refine ⟨fun hchosen => by rw [hchosen], fun i handler hchosen hread => ?_⟩
  rw [← present_params s] at hread ⊢
  rw [hchosen, ← present_ccr s]
  refine finish_eq_next.2 (enterHandler_eq_ok.2 ⟨handler, hread, ?_⟩)
  simp only [State.handled, Source.interrupt.injEq]

/-! ### Stopped -/

/-- S disables STOP (48_ccr_system.md R413). -/
theorem exec_stop (s : State) : exec .stop s = .next (if s.ccr.s then s else s.setRunState .stopped) := by
  simp only [exec, execStop, Bool.cond_eq_ite]

theorem endsStop_eq_false_iff : s.endsStop i = false ↔ ¬ (i = .xirq ∧ s.ccr.x = false ∨ i = .irq ∧ s.ccr.i = false) := by
  rw [← endsStop_iff, Bool.not_eq_true]

/-- A masked XIRQ that is pending on the platform (60_exceptions.md R437(c)). -/
theorem resumesFromStop_iff :
    s.resumesFromStop = true ↔ .interrupt .xirq ∈ s.params.priority ∧ .interrupt .xirq ∈ s.pending ∧ s.ccr.x = true := by
  simp only [State.resumesFromStop, Bool.and_eq_true, decide_eq_true_eq, and_assoc]

/-- With no request that ends the stop by an entry, a masked XIRQ alone ends it. -/
theorem step_of_stopped (hreset : s.presentedReset = none) (hrun : s.present.runState = .stopped)
    (hchosen : s.present.chosenInStop = none) :
    step s = .next (if s.present.resumesFromStop then s.present.setRunState .running else s.present) := by
  simp only [step_of_noReset hreset, State.runStep, hrun, State.stoppedStep, hchosen, Bool.cond_eq_ite]

/-- Settles O15: STOP by S; its exits by the search for a request that ends it, and by a masked XIRQ. -/
theorem stopInstruction : Obligations.StopInstruction := by
  refine ⟨fun s => ⟨fun hS => ?_, fun hS => ?_⟩, fun s i => ?_, fun s hreset hrun => ⟨fun i hi => ?_, ?_, ?_⟩⟩
  · rw [exec_stop, if_pos hS]
  · rw [exec_stop, hS]
    rfl
  · simp only [State.chosenInStop, firstInterrupt_eq_some_iff, endsStop_iff, endsStop_eq_false_iff]
  · obtain ⟨_, hpending, hends⟩ := chosenInStop_spec hi
    rw [endsStop_iff, present_ccr] at hends
    exact ⟨hpending, hends, step_enters hreset (.inr ⟨hrun, hi⟩)⟩
  · intro hchosen hpriority hpending hx
    rw [step_of_stopped hreset hrun hchosen, if_pos]
    rw [resumesFromStop_iff, present_params, present_ccr]
    exact ⟨hpriority, hpending, hx⟩
  · intro hchosen hmasked
    rw [step_of_stopped hreset hrun hchosen, if_neg]
    rwa [resumesFromStop_iff, present_params, present_ccr]

end Sys2Proof.Machine
end

section
/-! PROOF. Environment: the reset step (70_reset_and_hazards.md R470, R471), and what every step leaves to the environment
(60_exceptions.md R425). -/

namespace Sys2Proof.Machine

open Config

variable {s t u : State} {i : Instr} {r : ResetSource}

/-! ### Reset -/

/-- A reset succeeds when its vector can be read once the devices have seen it. -/
theorem resetStep_ok {start : Word}
    (h : (s.noteDevice (.reset r)).read16 (vectorAddress s.params.vectors (.reset r)) = .ok start) :
    ∃ t, s.resetStep r = .ok t := ⟨_, bind_eq_ok.2 ⟨start, h, rfl⟩⟩

/-- What devices see does not depend on the requests of the environment. -/
theorem noteDevice_present_afterRead16 (s : State) (e : DeviceEvent) (x : Word) :
    ((s.present.noteDevice e).afterRead16 x).deviceLog = ((s.noteDevice e).afterRead16 x).deviceLog := by
  unfold State.present
  cases s.inputs <;> rfl

/-- A presented reset acts in any run state (70_reset_and_hazards.md R470). -/
theorem step_of_reset (h : s.presentedReset = some r) : step s = finish (s.present.resetStep r) := by
  simp only [step, State.boundaryStep, h]

/-- Settles O17: the reset step, from the state presented. -/
theorem resetStep : Obligations.ResetStep := by
  intro s r start hreset hread
  rw [← noteDevice_present_read16, ← present_params] at hread
  obtain ⟨t, ht⟩ := resetStep_ok hread
  obtain ⟨hpc, hccr, hrun, hdelay, hmem, hparams, hpending, -, -, hlog⟩ := resetStep_spec ht
  have hstart : t.pc = start := Except.ok.inj (hpc.symm.trans hread)
  rw [noteDevice_present_afterRead16, present_params] at hlog
  refine ⟨t, by rw [step_of_reset hreset, ht, finish_ok], ?_, ?_, ?_, hdelay, hrun, hstart, hmem.trans (present_mem s),
    hparams.trans (present_params s), hpending, hlog⟩
  all_goals rw [hccr]; rfl

/-! ### What the machine leaves to the environment -/

/-- The parameters, the standing requests and the script of two states are the same. -/
structure State.SameEnvironment (s t : State) : Prop where
  params : t.params = s.params
  pending : t.pending = s.pending
  inputs : t.inputs = s.inputs

theorem State.SameEnvironment.trans (h : s.SameEnvironment t) (k : t.SameEnvironment u) : s.SameEnvironment u :=
  ⟨k.params.trans h.params, k.pending.trans h.pending, k.inputs.trans h.inputs⟩

theorem sameEnvironment_enterHandler {src : Source} (h : s.enterHandler src = .ok t) : s.SameEnvironment t := by
  obtain ⟨handler, _, rfl⟩ := enterHandler_eq_ok.1 h
  constructor <;> simp [State.handled]

/-- Taking a request does not clear it. -/
theorem sameEnvironment_takeException {src : Source} (h : s.takeException src = .ok t) : s.SameEnvironment t := by
  rw [takeException_eq] at h
  have hframed : s.SameEnvironment s.framed := ⟨framed_params s, framed_pending s, framed_inputs s⟩
  exact hframed.trans (sameEnvironment_enterHandler h)

theorem sameEnvironment_afterFetch (s : State) (n : Nat) : s.SameEnvironment (s.afterFetch n) :=
  ⟨s.afterReads_params _ n, s.afterReads_pending _ n, s.afterReads_inputs _ n⟩

theorem sameEnvironment_exec (h : exec i s = .next t) : s.SameEnvironment t := by
  obtain ⟨_, hframe⟩ := exec_follows h
  exact ⟨hframe.params, hframe.pending, hframe.inputs⟩

theorem sameEnvironment_resetStep (h : s.resetStep r = .ok t) : s.SameEnvironment t := by
  obtain ⟨-, -, -, -, -, hparams, hpending, hinputs, -⟩ := resetStep_spec h
  exact ⟨hparams, hpending, hinputs⟩

/-- What the machine does without a reset, by cases. -/
theorem State.Acts.sameEnvironment (h : s.Acts t) : s.SameEnvironment t := by
  cases h with
  | entry j hj h => exact sameEnvironment_takeException h
  | leaveWait j hrun hj h => exact sameEnvironment_enterHandler h
  | instr i n hrun hj hf h =>
    obtain ⟨hparams, hpending, hinputs⟩ := sameEnvironment_afterFetch s n
    have hstart : s.SameEnvironment (s.atInstr n) := ⟨hparams, hpending, hinputs⟩
    exact hstart.trans (sameEnvironment_exec h)
  | trap bytes hrun hj hf hp h => exact (sameEnvironment_afterFetch s _).trans (sameEnvironment_takeException h)
  | resume hrun hj hx h =>
    subst h
    exact ⟨rfl, rfl, rfl⟩
  | stay hrun h =>
    subst h
    exact ⟨rfl, rfl, rfl⟩

/-- Each boundary takes one entry of the script. -/
theorem present_inputs (s : State) : s.present.inputs = s.inputs.tail := by
  unfold State.present
  cases h : s.inputs with
  | nil => exact h
  | cons e rest => rfl

/-- Settles O18: by the cases of a step, each from the state presented. -/
theorem environmentKept : Obligations.EnvironmentKept := by
  intro s t h
  have hsame : s.present.SameEnvironment t := by
    rcases step_cases h with ⟨r, _, hreset⟩ | ⟨_, hacts⟩
    · exact sameEnvironment_resetStep hreset
    · exact hacts.sameEnvironment
  exact ⟨hsame.params.trans (present_params s), hsame.pending, hsame.inputs.trans (present_inputs s)⟩

end Sys2Proof.Machine
end
